-- ==== Sys2Proof/Word.lean ====
section
/-! DEFINITION. The two word widths of the manual: a byte of the link, of a payload or of buffer memory, and a
two-byte field. Everything the manual only counts is a Nat. -/
namespace Sys2Proof

/-- One byte. -/
abbrev Byte := BitVec 8

/-- A field of two bytes (R201). -/
abbrev Half := BitVec 16

end Sys2Proof
end

