-- ==== Sys2Proof/Syntax.lean ====
section
/-! DEFINITION. The commands of the part: one constructor per row of the table of operations and events, in the table's order. -/
namespace Sys2Proof

/-- A command that reaches the part. The operands are what comes from outside at that event. The requests have none: the
interpreter carries out the request it holds, whose fields are in that request's payload (R33). -/
inductive Instr where
  /-- RSTn goes low (R2). -/
  | rstnLow
  /-- RSTn rises after `lowMicros` µs low with the clock running; the straps are sampled at the levels given (R3, R5). -/
  | rstnRise (lowMicros : Nat) (mode br1 br0 : Bool)
  /-- 00h is written to address 8191. Bit n of `trg` and `busy` is the level then on TRGn and BUSYn (R5, R9, R144). -/
  | startUpClearComplete (trg busy : BitVec 4)
  /-- The stop bit of a UART character has been sampled, high or low (R10). -/
  | uartCharacterComplete (data : Byte) (stopHigh : Bool)
  /-- A UART silence of more than 1 ms (R18). -/
  | silenceAbort
  /-- LSELn falls (R11). -/
  | lselnFall
  /-- LSELn rises (R19). -/
  | lselnRise
  /-- The eighth bit of an SPI byte slot; `outFirst` says that the outbound half is taken before the inbound half (R11, R12). -/
  | spiByteComplete (data : Byte) (outFirst : Bool)
  /-- The stop bit of an outbound UART byte has been sent (R21). -/
  | uartByteSent
  | unknownRequestType
  | identify
  | status
  | reset
  | noticeControl
  | targetSet
  | targetGet
  | memWrite
  | memWriteDone
  | memRead
  | memReadDone
  /-- The memory arbiter grants one access (R52). -/
  | memoryGrant
  | jobDefine
  | jobGet
  | jobStatus
  | jobRelease
  | jobStart
  | jobCancel
  | jobClear
  | jobSwap
  | channelHold
  | channelAbort
  | timerSet
  | lineSet
  /-- TIMERn expires (R118). -/
  | timerExpiry (n : Fin 4)
  /-- A level has been seen on TRGn (R9). -/
  | lineEdge (n : Fin 4) (level : Bool)
  /-- The arbiter of channel c makes the fresh choice that is due (R126). -/
  | freshChoice (c : Fin 4)
  /-- 62.5 ns after SCKc was driven to a new idle level (R141). -/
  | selectAssertion (c : Fin 4)
  | leadEnd (c : Fin 4)
  /-- BUSYc is seen ready in a busy wait (R144). -/
  | busyReady (c : Fin 4)
  | busyTimeout (c : Fin 4)
  /-- The eighth bit period ends; bit 7 of `wire` is the first bit sampled on SDIc in this byte (R149). -/
  | byteEnd (c : Fin 4) (wire : Byte)
  | gapEnd (c : Fin 4)
  | unitEndComplete (c : Fin 4)
  | lagEnd (c : Fin 4)
  | pollIntervalEnd (c : Fin 4)
  | coreClockStops
  | coreClockReturns
  /-- A level held on BUSYc for 62.5 ns is seen (R144). -/
  | busyLevelSeen (c : Fin 4) (high : Bool)
  /-- The eighth sample of SDIc in clock modes 0 and 2; `wire` as in `byteEnd` (R148). -/
  | lastBitArrived (c : Fin 4) (wire : Byte)
  deriving DecidableEq, Repr

end Sys2Proof
end

