-- ==== Sys2Proof/Decode.lean ====
section
/-! DEFINITION. Words and commands. The part has no instruction words: no row of the table of operations and events carries
bits, so no word spells a command. (The frames of the control link are bytes that reach the part one by one, and their fields
are read in Machine/Operands.lean.) -/
namespace Sys2Proof

/-- The command that the word `w` of `nbits` bits spells by the table's bits: none, since no row gives bits. -/
def decodeTableWord (_nbits _w : Nat) : Option Instr := none

end Sys2Proof
end

