-- ==== Sys2Proof/Config.lean ====
section
/-! DEFINITION. The numbers the part fixes: capacities (00_scope.md, Capacities at a Glance) and time bases (R1). -/
namespace Sys2Proof.Config

/-- Bytes of buffer memory (R50). -/
def memSize : Nat := 8192

/-- The SYNC byte (R13). -/
def sync : Byte := 0xA5

/-- The greatest LEN of a frame (R13, R16). -/
def maxPayload : Nat := 240

/-- The notice TYPE (R13). -/
def noticeType : Byte := 0xC0

/-- Records the notice queue holds at most (R185). -/
def noticeCap : Nat := 32

/-- JOB_DONE and OVERRUN records it holds at most (R185). -/
def mergeCap : Nat := 28

/-- Core clocks of one timer tick of 1 µs (R1: 32 MHz). -/
def clocksPerTick : Nat := 32

/-- Core clocks of one lead/lag unit of 125 ns (R1). -/
def clocksPerLeadUnit : Nat := 4

/-- Core clocks of one period of the 16 MHz channel clock base (R1). -/
def clocksPerBase : Nat := 2

/-- Core clocks of the 62.5 ns between a change of SCKc's level and the select assertion (R141). -/
def clocksBeforeAssertion : Nat := 2

/-- The least time RSTn must be low with the clock running, in µs (R2). -/
def minResetMicros : Nat := 10

/-- The period of a timer after a reset, in µs (R137). -/
def defaultPeriod : Half := 1000

/-- The silicon revision IDENTIFY and STARTED report (R40, R195). -/
def revision : Byte := 1

/-- Core clocks of one UART bit at the rate code 0 to 3 that BR1, BR0 give (R1, R3). -/
def uartBitClocks (br1 br0 : Bool) : Nat :=
  match br1, br0 with
  | false, false => 278
  | false, true => 69
  | true, false => 32
  | true, true => 16

end Sys2Proof.Config
end

