-- ==== Sys2Proof/Machine/State.lean ====
section
/-! DEFINITION. The state of the part as plain data, every piece the manual gives it (INVENTORY.md lists them with their
rules), and its value while RSTn is held low. -/
namespace Sys2Proof.Machine

/-- Why the part's model stops. -/
inductive Fault where
  /-- Raised by RSTN_RISE after a low time of less than 10 µs with the clock running: "the state of the part after it is not
  specified" (R2). Safe: the manual gives no state to go on with. -/
  | resetTooShort
  /-- Raised by MEMORY_GRANT of an address above 8191, which does not exist (R50). Windows are checked when they are defined
  (R86) and ranges when they are requested (R56, R61), so no run reaches it. Safe. -/
  | noSuchAddress
  deriving DecidableEq, Repr

/-- Why a command has no meaning yet. -/
inductive Refusal where
  /-- Raised by an arm of exec that is not modelled; no arm is left so. Safe. -/
  | notModelled (mnemonic : String)
  deriving DecidableEq, Repr

/-- Held in reset, clearing buffer memory, or in normal operation (R2, R5). -/
inductive Phase where
  | held | startUp | running
  deriving DecidableEq, Repr

/-- MODE, BR1 and BR0 as sampled at the last rising edge of RSTn; `spi` is MODE (R3). -/
structure Straps where
  spi : Bool
  br1 : Bool
  br0 : Bool
  deriving DecidableEq, Repr

/-- The outbound SPI byte slot in progress: the idle fill 00h, or the next unsent byte of the frame in progress (R12). -/
inductive Slot where
  | fill | frameByte
  deriving DecidableEq, Repr

/-- The SPI side of the link pins: the level of LSELn, whether its transaction is ignored because it was under way at the
rising edge of RSTn (R6), and the byte slot in progress. -/
structure Spi where
  lselnLow : Bool
  ignored : Bool
  slot : Option Slot
  deriving DecidableEq, Repr

/-- The receiver states (02, The Receiver). -/
inductive RxState where
  | hunt | header | body | check
  deriving DecidableEq, Repr

/-- The link receiver: its state, the partial frame after SYNC (LEN, TAG, TYPE, payload, CRC low), the running CRC. -/
structure Receiver where
  state : RxState
  got : List Byte
  crc : Half
  deriving DecidableEq, Repr

/-- A request as the interpreter sees it (R33), with the write-claim record of a STATUS request (R42). -/
structure Request where
  tag : Byte
  typ : Byte
  payload : List Byte
  claimHeld : Bool
  deriving DecidableEq, Repr

/-- An answer: the TAG, the answer type and the payload, whose first byte is the result code (R13). -/
structure Answer where
  tag : Byte
  typ : Byte
  payload : List Byte
  deriving DecidableEq, Repr

/-- One request place (R21). -/
inductive Place where
  | empty
  | request (r : Request)
  | answered (r : Request) (a : Answer)
  | replayed (a : Answer)
  deriving DecidableEq, Repr

/-- The place of an answer in the answer queue (R26). -/
inductive AnswerRef where
  | place (p : Fin 4)
  | refusal
  deriving DecidableEq, Repr

/-- Where the frame in progress comes from. -/
inductive Source where
  | answer (r : AnswerRef)
  | notice
  deriving DecidableEq, Repr

/-- The replay memory's entry: TAG and CRC of the last accepted request, the place it was accepted into, and its answer once
produced (R23). -/
structure Replay where
  tag : Byte
  crc : Half
  place : Fin 4
  answer : Option Answer
  deriving DecidableEq, Repr

/-- The frame in progress and the number of its bytes already sent. -/
structure TxFrame where
  source : Source
  bytes : List Byte
  sent : Nat
  deriving DecidableEq, Repr

/-- The link controller (02). -/
structure Link where
  rx : Receiver
  places : Vector Place 4
  /-- The places whose requests wait for the interpreter, in order of acceptance (R32). -/
  waiting : List (Fin 4)
  refusal : Option Answer
  /-- The answer queue, oldest first; the answer whose frame is in progress is still in it (R26). -/
  answers : List AnswerRef
  replay : Option Replay
  checkFailures : Half
  formatErrors : Half
  dropped : Half
  tx : Option TxFrame
  /-- Core clocks left of the UART character being sent. -/
  txClocks : Nat
  deriving DecidableEq, Repr

/-- How far the request being executed has come: not carried out yet, or moving its bytes (R58, R61). -/
inductive Work where
  | fresh
  | writing (addr : Nat) (data : List Byte) (done : Nat)
  | reading (addr count : Nat) (got : List Byte)
  deriving DecidableEq, Repr

/-- The request interpreter (R32, R44). -/
inductive Interp where
  | idle
  | executing (p : Fin 4) (w : Work)
  | resetWait (p : Fin 4)
  deriving DecidableEq, Repr

/-- Buffer memory: the bytes that are not 00h, at rising addresses. -/
abbrev Memory := List Host.Cell

/-- A range of buffer memory (R54). -/
structure Window where
  start : Nat
  len : Nat
  deriving DecidableEq, Repr

inductive BitOrder where
  | msbFirst | lsbFirst
  deriving DecidableEq, Repr

inductive BusyMode where
  | off | activeHigh | activeLow
  deriving DecidableEq, Repr

/-- A target profile (R67). -/
structure Profile where
  divider : Byte
  clockMode : Fin 4
  order : BitOrder
  lead : Byte
  lag : Byte
  gap : Byte
  unit : Nat
  busy : BusyMode
  timeout : Half
  strobe : Bool
  slipCheck : Bool
  deriving DecidableEq, Repr

inductive Kind where
  | send | receive | exchange | poll
  deriving DecidableEq, Repr

inductive JobClass where
  | normal | urgent
  deriving DecidableEq, Repr

inductive TrigSource where
  | none
  | timer (n : Fin 4)
  | line (n : Fin 4)
  deriving DecidableEq, Repr

/-- The definition part of a job record (R81). A link of FFh is `none`; an absent window B is `none`. -/
structure JobDef where
  target : Fin 16
  kind : Kind
  cls : JobClass
  winA : Window
  winB : Option Window
  fill : Byte
  segment : Byte
  source : TrigSource
  success : Option (Fin 64)
  failure : Option (Fin 64)
  notify : Bool
  pollMask : Byte
  pollMatch : Byte
  retryLimit : Byte
  interval : Half
  deriving DecidableEq, Repr

inductive JobState where
  | free | armed | ready | running | suspended | halted
  deriving DecidableEq, Repr

inductive WinSel where
  | a | b
  deriving DecidableEq, Repr

inductive Ending where
  | noEnding | complete | noMatch | cancelled | fault
  deriving DecidableEq, Repr

inductive JobFault where
  | noFault | busyTimeout | slip | aborted
  deriving DecidableEq, Repr

/-- The runtime part of a job record (R82). -/
structure Runtime where
  state : JobState
  cancel : Bool
  pending : Bool
  active : WinSel
  swap : Bool
  progress : Nat
  passCount : Half
  overruns : Byte
  lastEnding : Ending
  lastFault : JobFault
  lastPoll : Byte
  deriving DecidableEq, Repr

/-- A job record (R80). -/
structure Job where
  defn : Option JobDef
  rt : Runtime
  deriving DecidableEq, Repr

/-- An interval timer; it runs exactly while it holds a count (R118). -/
structure Timer where
  period : Half
  count : Option Nat
  deriving DecidableEq, Repr

inductive EdgeSel where
  | off | rising | falling | both
  deriving DecidableEq, Repr

/-- A trigger line: its edge selection (R121) and the level last seen, none before the first (R9). -/
structure Line where
  sel : EdgeSel
  seen : Option Bool
  deriving DecidableEq, Repr

/-- A channel arbiter. Its ready queue is read from the job table (R83, R123), see `State.readyQueue`. -/
structure Arbiter where
  held : Bool
  slot : Option (Fin 64)
  choiceDue : Bool
  deriving DecidableEq, Repr

inductive EngState where
  | idle | lead | busyWait | shift | gap | unitEnd | pollWait | lag
  deriving DecidableEq, Repr

inductive PassOutcome where
  | complete | noMatch
  deriving DecidableEq, Repr

/-- The LAG reason (R154); attempt end is settled by R159. -/
inductive LagReason where
  | passEnd (o : PassOutcome)
  | suspension
  | cancel
  | fault (f : JobFault)
  | attemptEnd
  deriving DecidableEq, Repr

/-- One half of the outbound byte register: nothing, a byte whose read waits, or the byte held (R143). -/
inductive OutByte where
  | empty
  | waiting (pos : Nat)
  | held (b : Byte)
  deriving DecidableEq, Repr

/-- An access asked of the memory arbiter: the next read, or the store of a received byte (R146, R148). -/
inductive Ask where
  | read
  | store (b : Byte)
  deriving DecidableEq, Repr

/-- A channel engine (08). -/
structure Engine where
  state : EngState
  job : Option (Fin 64)
  served : Option (Fin 16)
  restHigh : Bool
  /-- In LEAD: the select line has been asserted (R141). -/
  asserted : Bool
  unitPos : Nat
  segCount : Nat
  attemptPos : Nat
  /-- The byte in SHIFT is the reply byte of a POLL attempt (R157). -/
  replying : Bool
  cur : OutByte
  nxt : OutByte
  inByte : Option Byte
  asks : List Ask
  /-- The last byte's eighth period has ended and its store still waits (R148). -/
  owed : Bool
  /-- The engine stays in its state only for that store (R148). -/
  ended : Bool
  slip : Bool
  lag : Option LagReason
  interval : Nat
  sdo : Bool
  deriving DecidableEq, Repr

/-- The cause of a STARTED notice. -/
inductive Cause where
  | power | resetRequest
  deriving DecidableEq, Repr

/-- A notice record (R184). -/
inductive Notice where
  | started (cause : Cause)
  | jobDone (job : Fin 64) (ending : Ending) (merged : Byte) (progress : Nat) (lastPoll : Byte)
  | jobFault (job : Fin 64) (channel : Fin 4) (fault : JobFault) (progress : Nat)
  | overrun (job : Fin 64) (increments : Byte)
  | noticeLost (count : Byte)
  deriving DecidableEq, Repr

/-- The notice queue (10). -/
structure NoticeQueue where
  records : List Notice
  lost : Byte
  paused : Bool
  deriving DecidableEq, Repr

/-- A pass in progress, as an engine reads it: its channel, its job, the job's definition, the target's profile. -/
structure Pass where
  chan : Fin 4
  job : Fin 64
  defn : JobDef
  prof : Profile
  deriving DecidableEq, Repr

/-- The whole part, and the queue of commands that wait for it. -/
structure State where
  rstnLow : Bool
  clock : Bool
  phase : Phase
  /-- The next address of the start-up clear. -/
  clearPos : Nat
  /-- Core clocks into the present timer tick. -/
  usPhase : Nat
  straps : Straps
  spi : Spi
  link : Link
  interp : Interp
  mem : Memory
  claim : Option Window
  /-- The requester granted last: 0 to 3 for CH0 to CH3, 4 for the interpreter (R52). -/
  rotation : Fin 5
  targets : Vector Profile 16
  jobs : Vector Job 64
  timers : Vector Timer 4
  lines : Vector Line 4
  /-- The level last seen on each BUSYc, none before the end of start-up (R144). -/
  busySeen : Vector (Option Bool) 4
  arbs : Vector Arbiter 4
  engs : Vector Engine 4
  notices : NoticeQueue
  pending : List Instr
  deriving DecidableEq, Repr

/-- The receiver in HUNT with no partial frame (R15, R30). The spec gives the running CRC no value there, since R15 sets it at
SYNC: FFFFh in HUNT is the model's value, not observable (log entry 30). -/
def Receiver.hunting : Receiver := { state := .hunt, got := [], crc := 0xFFFF }

/-- The link controller at power-on (R30). -/
def Link.powerOn : Link :=
  { rx := .hunting, places := Vector.replicate 4 .empty, waiting := [], refusal := none, answers := [], replay := none
    checkFailures := 0, formatErrors := 0, dropped := 0, tx := none, txClocks := 0 }

/-- The default profile (R67). -/
def Profile.default : Profile :=
  { divider := 255, clockMode := 0, order := .msbFirst, lead := 8, lag := 8, gap := 0, unit := 1, busy := .off
    timeout := 1000, strobe := false, slipCheck := false }

/-- The runtime part of a FREE job (R111). -/
def Runtime.free : Runtime :=
  { state := .free, cancel := false, pending := false, active := .a, swap := false, progress := 0, passCount := 0
    overruns := 0, lastEnding := .noEnding, lastFault := .noFault, lastPoll := 0 }

/-- A FREE job (R111). -/
def Job.free : Job := { defn := none, rt := .free }

/-- A timer at power-on: stopped, period 1000 µs (R137). -/
def Timer.powerOn : Timer := { period := Config.defaultPeriod, count := none }

/-- A channel arbiter at power-on (R138). -/
def Arbiter.powerOn : Arbiter := { held := false, slot := none, choiceDue := false }

/-- A channel engine at power-on (R139). -/
def Engine.powerOn : Engine :=
  { state := .idle, job := none, served := none, restHigh := false, asserted := false, unitPos := 0, segCount := 0
    attemptPos := 0, replying := false, cur := .empty, nxt := .empty, inByte := none, asks := [], owed := false
    ended := false, slip := false, lag := none, interval := 0, sdo := false }

/-- The notice queue at power-on (R196). -/
def NoticeQueue.powerOn : NoticeQueue := { records := [], lost := 0, paused := false }

/-- The part right after reset: RSTn is held low with the core clock running, and every block is at its power-on values
(R2, R30, R49, R51, R52, R68, R111, R137, R138, R139, R196). Values the manual does not give: straps (log entry 4), LSELn
(log entry 3), the timer tick's phase (log entry 7), memory before the first clear (log entry 2), the clock (log entry 1). -/
def State.reset : State :=
  { rstnLow := true, clock := true, phase := .held, clearPos := 0, usPhase := 0
    straps := { spi := false, br1 := false, br0 := false }
    spi := { lselnLow := false, ignored := false, slot := none }
    link := .powerOn, interp := .idle, mem := [], claim := none, rotation := 4
    targets := Vector.replicate 16 .default
    jobs := Vector.replicate 64 .free
    timers := Vector.replicate 4 .powerOn
    lines := Vector.replicate 4 { sel := .off, seen := none }
    busySeen := Vector.replicate 4 none
    arbs := Vector.replicate 4 .powerOn
    engs := Vector.replicate 4 .powerOn
    notices := .powerOn
    pending := [] }

end Sys2Proof.Machine
end

