-- ==== Sys2Proof/Machine/Ops.lean ====
section
/-! DEFINITION. The named operations over buffer memory and the records of State, and those that several commands share:
windows and the ready queue (04, 07), the notice queue (10), the trigger rule (07) and the endings (06, 09). -/
namespace Sys2Proof.Machine

/-! ### Counts -/

/-- One more, saturating at 255 (R96, R187, R188, R190). -/
def satInc8 (b : Byte) : Byte := if b = 0xFF then b else b + 1

/-- One more, saturating at 65535 (R20). -/
def satInc16 (b : Half) : Half := if b = 0xFFFF then b else b + 1

/-! ### Buffer memory (R50) -/

/-- The canonical form: strictly rising addresses below 8192, and no byte equal to 00h, which an unlisted address reads as. -/
abbrev Memory.wf (m : Memory) : Prop :=
  m.Pairwise (fun a b => a.1 < b.1) ∧ ∀ c ∈ m, c.1 < Config.memSize ∧ c.2 ≠ 0

/-- The byte at address `a`. -/
def Memory.read : Memory → Nat → Byte
  | [], _ => 0
  | (b, v) :: m, a => if a = b then v else Memory.read m a

/-- Put byte `v` at address `a` of a sorted list, listing no 00h. -/
def Memory.put : Memory → Nat → Byte → Memory
  | [], a, v => if v = 0 then [] else [(a, v)]
  | (b, w) :: m, a, v =>
    if a < b then (if v = 0 then (b, w) :: m else (a, v) :: (b, w) :: m)
    else if a = b then (if v = 0 then m else (a, v) :: m)
    else (b, w) :: Memory.put m a v

/-- Write byte `v` at address `a`. An address above 8191 does not exist, and nothing is written there. -/
def Memory.write (m : Memory) (a : Nat) (v : Byte) : Memory :=
  if a < Config.memSize then m.put a v else m

/-! ### Records of State -/

def State.job (s : State) (j : Fin 64) : Job := s.jobs[j]
def State.eng (s : State) (c : Fin 4) : Engine := s.engs[c]
def State.arb (s : State) (c : Fin 4) : Arbiter := s.arbs[c]
def State.target (s : State) (t : Fin 16) : Profile := s.targets[t]
def State.timer (s : State) (n : Fin 4) : Timer := s.timers[n]
def State.line (s : State) (n : Fin 4) : Line := s.lines[n]
def State.place (s : State) (p : Fin 4) : Place := s.link.places[p]
def State.busyLevel (s : State) (c : Fin 4) : Option Bool := s.busySeen[c]

def State.setJob (s : State) (j : Fin 64) (x : Job) : State := { s with jobs := s.jobs.set j.1 x j.2 }
def State.setEng (s : State) (c : Fin 4) (x : Engine) : State := { s with engs := s.engs.set c.1 x c.2 }
def State.setArb (s : State) (c : Fin 4) (x : Arbiter) : State := { s with arbs := s.arbs.set c.1 x c.2 }
def State.setTarget (s : State) (t : Fin 16) (x : Profile) : State := { s with targets := s.targets.set t.1 x t.2 }
def State.setTimer (s : State) (n : Fin 4) (x : Timer) : State := { s with timers := s.timers.set n.1 x n.2 }
def State.setLine (s : State) (n : Fin 4) (x : Line) : State := { s with lines := s.lines.set n.1 x n.2 }
def State.setBusyLevel (s : State) (c : Fin 4) (b : Bool) : State :=
  { s with busySeen := s.busySeen.set c.1 (some b) c.2 }
def State.setPlace (s : State) (p : Fin 4) (x : Place) : State :=
  { s with link := { s.link with places := s.link.places.set p.1 x p.2 } }
def State.setInterp (s : State) (i : Interp) : State := { s with interp := i }
def State.setMem (s : State) (m : Memory) : State := { s with mem := m }
def State.setNotices (s : State) (q : NoticeQueue) : State := { s with notices := q }

/-- Replace the runtime part of job j. -/
def State.setRt (s : State) (j : Fin 64) (r : Runtime) : State := s.setJob j { s.job j with rt := r }

/-- Every job number in rising order. -/
def allJobs : List (Fin 64) := List.finRange 64

/-- Every channel number in rising order. -/
def allChannels : List (Fin 4) := [0, 1, 2, 3]

/-! ### When a command can occur -/

/-- The part is in normal operation and RSTn is high. -/
def State.live (s : State) : Bool := decide (s.phase = .running) && !s.rstnLow

/-- It is, and the core clock runs: the end of a timed interval, a UART character and a level seen on an input need it (R1,
R9; log entry 9). -/
def State.timed (s : State) : Bool := s.live && s.clock

/-! ### Targets and channels (R66) -/

/-- Target t is wired to channel t div 4. -/
def channelOf (t : Fin 16) : Fin 4 := ⟨t.1 / 4, by omega⟩

/-- Target t is on select line t mod 4 of its channel. -/
def selectOf (t : Fin 16) : Fin 4 := ⟨t.1 % 4, by omega⟩

/-- Job j has a definition whose target is on channel c. -/
def State.onChannel (s : State) (c : Fin 4) (j : Fin 64) : Bool :=
  match (s.job j).defn with
  | some d => decide (channelOf d.target = c)
  | none => false

/-! ### Windows (R54, R55) -/

/-- Start 0 to 8191, length 1 to 8192, start plus length not above 8192. -/
def Window.inBounds (w : Window) : Bool :=
  decide (w.start < Config.memSize) && decide (1 ≤ w.len) && decide (w.start + w.len ≤ Config.memSize)

/-- Some address lies in both windows. -/
def Window.overlaps (v w : Window) : Bool :=
  decide (v.start < w.start + w.len) && decide (w.start < v.start + v.len)

/-- The active window of a job. -/
def activeWindow (d : JobDef) (sel : WinSel) : Window :=
  match sel, d.winB with
  | .b, some w => w
  | _, _ => d.winA

/-- The windows a pass of the job uses: the active window, and the receive window of an EXCHANGE job (R55, R60). -/
def passWindows (d : JobDef) (sel : WinSel) : List Window :=
  match d.kind with
  | .send | .receive => [activeWindow d sel]
  | .poll => [d.winA]
  | .exchange => d.winA :: d.winB.toList

/-- RUNNING or SUSPENDED: the states in which a job's windows and target are in use (R55, R78). -/
def JobState.inUse : JobState → Bool
  | .running | .suspended => true
  | .free | .armed | .ready | .halted => false

/-- The windows of job j that a pass of it would use. -/
def State.windowsOf (s : State) (j : Fin 64) : List Window :=
  match (s.job j).defn with
  | some d => passWindows d (s.job j).rt.active
  | none => []

/-- The windows in use (R55). -/
def State.windowsInUse (s : State) : List Window :=
  allJobs.flatMap (fun j => if (s.job j).rt.state.inUse then s.windowsOf j else [])

/-- The write claim overlaps a window a pass of job j would use (R60). -/
def State.blocked (s : State) (j : Fin 64) : Bool :=
  match s.claim with
  | none => false
  | some w => (s.windowsOf j).any w.overlaps

/-! ### The ready queue (R123) -/

/-- Job j is READY on channel c and of class k. -/
def State.isReady (s : State) (c : Fin 4) (k : JobClass) (j : Fin 64) : Bool :=
  match (s.job j).defn with
  | some d => decide ((s.job j).rt.state = .ready) && decide (channelOf d.target = c) && decide (d.cls = k)
  | none => false

/-- The ready queue of channel c, front first: URGENT ahead of NORMAL, in rising job number within each class. -/
def State.readyQueue (s : State) (c : Fin 4) : List (Fin 64) :=
  allJobs.filter (s.isReady c .urgent) ++ allJobs.filter (s.isReady c .normal)

/-- The first unblocked job of class k in channel c's ready queue (R123). -/
def State.firstUnblocked (s : State) (c : Fin 4) (k : JobClass) : Option (Fin 64) :=
  allJobs.find? (fun j => s.isReady c k j && !s.blocked j)

/-- The RUNNING job of channel c (R41). -/
def State.runningJob (s : State) (c : Fin 4) : Option (Fin 64) :=
  allJobs.find? (fun j => s.onChannel c j && decide ((s.job j).rt.state = .running))

/-- A fresh choice becomes due on channel c (R125). -/
def State.choiceDue (s : State) (c : Fin 4) : State := s.setArb c { s.arb c with choiceDue := true }

/-- A fresh choice becomes due on every channel: the write claim is released (R58, R125). -/
def State.choiceDueAll (s : State) : State := { s with arbs := s.arbs.map (fun a => { a with choiceDue := true }) }

/-- A fresh choice becomes due on job j's channel. -/
def State.choiceDueFor (s : State) (j : Fin 64) : State :=
  match (s.job j).defn with
  | some d => s.choiceDue (channelOf d.target)
  | none => s

/-! ### The notice queue (R184 to R192) -/

/-- JOB_DONE and OVERRUN are the kinds that merge. -/
def Notice.merges : Notice → Bool
  | .jobDone _ _ _ _ _ | .overrun _ _ => true
  | .started _ | .jobFault _ _ _ _ | .noticeLost _ => false

/-- The queued record `q` takes the record `n` in: same kind, same job (R186, R189). -/
def Notice.takes (q n : Notice) : Bool :=
  match q, n with
  | .jobDone j _ _ _ _, .jobDone k _ _ _ _ => decide (j = k)
  | .overrun j _, .overrun k _ => decide (j = k)
  | _, _ => false

/-- The queued record after the merge (R187, R188). -/
def Notice.merge (q n : Notice) : Notice :=
  match q, n with
  | .jobDone j _ m _ _, .jobDone _ e _ p b => .jobDone j e (satInc8 m) p b
  | .overrun j i, .overrun _ _ => .overrun j (satInc8 i)
  | q, _ => q

/-- How many of the records are JOB_DONE or OVERRUN. -/
def mergingCount (rs : List Notice) : Nat := rs.countP Notice.merges

/-- The queue has room for the record (R185, R186). -/
def NoticeQueue.room (q : NoticeQueue) (n : Notice) : Bool :=
  decide (q.records.length < Config.noticeCap) && (!n.merges || decide (mergingCount q.records < Config.mergeCap))

/-- A record is handed to the queue: merged, appended or lost (R186, R190). -/
def NoticeQueue.hand (q : NoticeQueue) (n : Notice) : NoticeQueue :=
  if q.records.any (·.takes n) then
    { q with records := q.records.map (fun r => if r.takes n then r.merge n else r) }
  else if q.room n then { q with records := q.records ++ [n] }
  else { q with lost := satInc8 q.lost }

/-- The front record leaves as its frame starts; if the lost count is above 0 a NOTICE_LOST joins at the back (R191, R192). -/
def NoticeQueue.depart (q : NoticeQueue) : NoticeQueue :=
  if q.lost = 0 then { q with records := q.records.tail }
  else { q with records := q.records.tail ++ [.noticeLost q.lost], lost := 0 }

/-- Hand a record to the notice queue. -/
def State.hand (s : State) (n : Notice) : State := s.setNotices (s.notices.hand n)

/-! ### The trigger rule (R114) -/

/-- What a trigger does to a job. -/
inductive TrigOutcome where
  | ignored | queued | pended | overrun
  deriving DecidableEq, Repr

/-- The trigger rule's table: the effect by state and flags. -/
def triggerOutcome (r : Runtime) : TrigOutcome :=
  match r.state with
  | .free | .halted => .ignored
  | .armed => .queued
  | .ready => .overrun
  | .running => if r.cancel then .ignored else if r.pending then .overrun else .pended
  | .suspended => if r.pending then .overrun else .pended

/-- Job j takes a trigger. An overrun is counted and handed to the notice queue (R115). -/
def State.trigger (s : State) (j : Fin 64) : State :=
  match triggerOutcome (s.job j).rt with
  | .ignored => s
  | .queued => (s.setRt j { (s.job j).rt with state := .ready }).choiceDueFor j
  | .pended => s.setRt j { (s.job j).rt with pending := true }
  | .overrun => (s.setRt j { (s.job j).rt with overruns := satInc8 (s.job j).rt.overruns }).hand (.overrun j 1)

/-- Job j's definition names the trigger source. -/
def State.namesSource (s : State) (src : TrigSource) (j : Fin 64) : Bool :=
  match (s.job j).defn with
  | some d => decide (d.source = src)
  | none => false

/-- Every job that names the source takes one trigger, in rising job number (R117). -/
def State.triggerAll (s : State) (src : TrigSource) : State :=
  (allJobs.filter (s.namesSource src)).foldl State.trigger s

/-- A link is fired: the job it names takes a trigger; FFh fires nothing (R100). -/
def State.fire (s : State) : Option (Fin 64) → State
  | none => s
  | some j => s.trigger j

/-! ### Endings (R97 to R102, R169) -/

/-- The other window. -/
def WinSel.flip : WinSel → WinSel
  | .a => .b
  | .b => .a

/-- A pending swap is taken (R65). -/
def Runtime.takeSwap (r : Runtime) : Runtime :=
  if r.swap then { r with active := r.active.flip, swap := false } else r

def PassOutcome.ending : PassOutcome → Ending
  | .complete => .complete
  | .noMatch => .noMatch

/-- The link that the outcome of a pass fires (R98, step 4). -/
def PassOutcome.link (o : PassOutcome) (d : JobDef) : Option (Fin 64) :=
  match o with
  | .complete => d.success
  | .noMatch => d.failure

/-- Step 6 of a pass end: a pending trigger makes the job READY, else it is ARMED (R98). -/
def State.passEndState (s : State) (j : Fin 64) : State :=
  if (s.job j).rt.pending then (s.setRt j { (s.job j).rt with state := .ready, pending := false }).choiceDueFor j
  else s.setRt j { (s.job j).rt with state := .armed }

/-- The JOB_DONE record of job j as its record stands (R101). -/
def State.jobDone (s : State) (j : Fin 64) (e : Ending) : Notice :=
  .jobDone j e 1 (s.job j).rt.progress (s.job j).rt.lastPoll

/-- Steps 1 to 3 of a pass end on the record: pass count, swap, last ending. -/
def Runtime.countPass (r : Runtime) (e : Ending) : Runtime :=
  { r.takeSwap with passCount := r.passCount + 1, lastEnding := e }

/-- An ending COMPLETE or NO_MATCH is applied to job j with definition d (R98). -/
def State.passEnd (s : State) (j : Fin 64) (d : JobDef) (o : PassOutcome) : State :=
  let s := s.setRt j ((s.job j).rt.countPass o.ending)
  let s := s.fire (o.link d)
  let s := if d.notify then s.hand (s.jobDone j o.ending) else s
  s.passEndState j

/-- The record after a CANCELLED ending (R102). -/
def Runtime.cancelled (r : Runtime) : Runtime :=
  { r.takeSwap with pending := false, lastEnding := .cancelled, cancel := false, state := .armed }

/-- The CANCELLED ending of job j (R102). -/
def State.cancelledEnding (s : State) (j : Fin 64) : State :=
  (s.hand (s.jobDone j .cancelled)).setRt j (s.job j).rt.cancelled

/-- The record of a job halted by fault f: steps 1 to 4 of R169, and steps 2 and 3 of R177. -/
def Runtime.halt (r : Runtime) (f : JobFault) : Runtime :=
  { r with pending := false, cancel := false, lastEnding := .fault, lastFault := f, state := .halted }

/-- Job j on channel c is halted with fault f and its JOB_FAULT record is handed (R169 steps 1 to 5, R177). -/
def State.haltJob (s : State) (c : Fin 4) (j : Fin 64) (f : JobFault) : State :=
  (s.setRt j ((s.job j).rt.halt f)).hand (.jobFault j c f (s.job j).rt.progress)

/-- The fault ending of job j with definition d (R169). -/
def State.faultEnding (s : State) (j : Fin 64) (d : JobDef) (f : JobFault) : State :=
  (s.haltJob (channelOf d.target) j f).fire d.failure

/-- A RUNNING job is suspended: its channel's arbiter holds it (R94). -/
def State.suspend (s : State) (c : Fin 4) (j : Fin 64) : State :=
  if (s.job j).rt.state = .running then
    let s := s.setRt j { (s.job j).rt with state := .suspended }
    s.setArb c { s.arb c with slot := some j }
  else s

/-- The ending that the recorded reason and the cancel requested give (R97). A fault prevails over a cancel; a cancel over
the rest. The reason cancel with the flag clear, which does not arise, ends CANCELLED too (log entry 25). -/
def State.applyEnding (s : State) (c : Fin 4) (j : Fin 64) (d : JobDef) (r : LagReason) : State :=
  match r with
  | .fault f => s.faultEnding j d f
  | .cancel | .attemptEnd => s.cancelledEnding j
  | .passEnd o => if (s.job j).rt.cancel then s.cancelledEnding j else s.passEnd j d o
  | .suspension => if (s.job j).rt.cancel then s.cancelledEnding j else s.suspend c j

end Sys2Proof.Machine
end

