-- ==== Sys2Proof/Machine/Operands.lean ====
section
/-! DEFINITION. The fields of request payloads and answers: byte positions, codes, and the whole layouts of a target profile
and a job definition (12_frame_and_record_layouts.md, R201 to R205). -/
namespace Sys2Proof.Machine

/-! ### Bytes -/

/-- Payload byte at offset i. -/
def byteAt (p : List Byte) (i : Nat) : Byte := p.getD i 0

/-- A two-byte field, the less significant byte at the lower offset (R201). -/
def halfAt (p : List Byte) (i : Nat) : Half := (byteAt p (i + 1) ++ byteAt p i : BitVec 16)

/-- The two bytes of a field, less significant first (R201). -/
def halfBytes (h : Half) : List Byte := [h.setWidth 8, (h >>> 8).setWidth 8]

/-- A number as one byte. -/
def natByte (n : Nat) : Byte := BitVec.ofNat 8 n

/-- A number as two bytes. -/
def natBytes (n : Nat) : List Byte := halfBytes (BitVec.ofNat 16 n)

/-- A flag: 00h or 01h (R201). -/
def flagByte (b : Bool) : Byte := if b then 1 else 0

/-- The flag a byte carries, none outside its codes. -/
def flagOf (b : Byte) : Option Bool := if b = 0 then some false else if b = 1 then some true else none

/-- A number below n, none when out of range. -/
def finOf (n : Nat) (b : Byte) : Option (Fin n) := if h : b.toNat < n then some ⟨b.toNat, h⟩ else none

/-- A job number, FFh for none (R201). -/
def jobOrNone : Option (Fin 64) → Byte
  | none => 0xFF
  | some j => natByte j.1

/-! ### Codes (R201) -/

def Kind.code : Kind → Byte
  | .send => 0 | .receive => 1 | .exchange => 2 | .poll => 3

def Kind.ofByte (b : Byte) : Option Kind :=
  if b = 0 then some .send else if b = 1 then some .receive else if b = 2 then some .exchange
  else if b = 3 then some .poll else none

def JobClass.code : JobClass → Byte
  | .normal => 0 | .urgent => 1

def JobClass.ofByte (b : Byte) : Option JobClass :=
  if b = 0 then some .normal else if b = 1 then some .urgent else none

def TrigSource.code : TrigSource → Byte
  | .none => 0
  | .timer n => 0x10 + natByte n.1
  | .line n => 0x20 + natByte n.1

def TrigSource.ofByte (b : Byte) : Option TrigSource :=
  if b = 0 then some .none
  else if b.toNat / 16 = 1 then (finOf 4 (b - 0x10)).map .timer
  else if b.toNat / 16 = 2 then (finOf 4 (b - 0x20)).map .line
  else none

def BitOrder.code : BitOrder → Byte
  | .msbFirst => 0 | .lsbFirst => 1

def BitOrder.ofByte (b : Byte) : Option BitOrder :=
  if b = 0 then some .msbFirst else if b = 1 then some .lsbFirst else none

def BusyMode.code : BusyMode → Byte
  | .off => 0 | .activeHigh => 1 | .activeLow => 2

def BusyMode.ofByte (b : Byte) : Option BusyMode :=
  if b = 0 then some .off else if b = 1 then some .activeHigh else if b = 2 then some .activeLow else none

def EdgeSel.code : EdgeSel → Byte
  | .off => 0 | .rising => 1 | .falling => 2 | .both => 3

def EdgeSel.ofByte (b : Byte) : Option EdgeSel :=
  if b = 0 then some .off else if b = 1 then some .rising else if b = 2 then some .falling
  else if b = 3 then some .both else none

def JobState.code : JobState → Byte
  | .free => 0 | .armed => 1 | .ready => 2 | .running => 3 | .suspended => 4 | .halted => 5

def EngState.code : EngState → Byte
  | .idle => 0 | .lead => 1 | .busyWait => 2 | .shift => 3 | .gap => 4 | .unitEnd => 5 | .pollWait => 6 | .lag => 7

def WinSel.code : WinSel → Byte
  | .a => 0 | .b => 1

def Ending.code : Ending → Byte
  | .noEnding => 0 | .complete => 1 | .noMatch => 2 | .cancelled => 3 | .fault => 4

def JobFault.code : JobFault → Byte
  | .noFault => 0 | .busyTimeout => 1 | .slip => 2 | .aborted => 3

/-- The outcome code of JOB_START; an ignored trigger has none, JOB_START then answers WRONG_STATE (R116). -/
def TrigOutcome.code : TrigOutcome → Option Byte
  | .queued => some 0 | .pended => some 1 | .overrun => some 2 | .ignored => none

def Cause.code : Cause → Byte
  | .power => 1 | .resetRequest => 2

/-- The result codes (R36). -/
inductive Result where
  | ok | full | badType | badLength | badArg | wrongState | windowBusy | targetInUse
  deriving DecidableEq, Repr

def Result.code : Result → Byte
  | .ok => 0 | .full => 1 | .badType => 2 | .badLength => 3 | .badArg => 4 | .wrongState => 5 | .windowBusy => 6
  | .targetInUse => 7

/-- The answer type: TYPE plus 80h, or TYPE itself from 80h up (R25, R34). -/
def answerType (t : Byte) : Byte := if t.toNat < 0x80 then t + 0x80 else t

/-- The twenty request codes (R34, R202). -/
def requestCodes : List Byte :=
  [0x01, 0x02, 0x03, 0x04, 0x10, 0x11, 0x18, 0x19, 0x20, 0x21, 0x22, 0x23, 0x24, 0x25, 0x26, 0x27, 0x30, 0x31, 0x38, 0x39]

/-- The permitted LEN of a request code, least and greatest (R35, R202). -/
def permittedLen (code : Byte) (n : Nat) : Bool :=
  if code = 0x01 || code = 0x03 then n = 0
  else if code = 0x18 then 3 ≤ n && n ≤ 240
  else if code = 0x10 then n = 13
  else if code = 0x19 then n = 3
  else if code = 0x20 then n = 24
  else if code = 0x30 || code = 0x39 then n = 2
  else if code = 0x38 then n = 4
  else n = 1

/-! ### Target profiles (R77, R203) -/

/-- The eleven profile fields of a TARGET_SET payload, none when a field is outside its range or slip check is on with busy
mode OFF. -/
def parseProfile (p : List Byte) : Option Profile := do
  let mode ← finOf 4 (byteAt p 2)
  let order ← BitOrder.ofByte (byteAt p 3)
  let busy ← BusyMode.ofByte (byteAt p 8)
  let strobe ← flagOf (byteAt p 11)
  let slip ← flagOf (byteAt p 12)
  let unit := (byteAt p 7).toNat
  let timeout := halfAt p 9
  if unit = 0 ∨ 16 < unit ∨ timeout = 0 ∨ (slip = true ∧ busy = .off) then none
  else some { divider := byteAt p 1, clockMode := mode, order := order, lead := byteAt p 4, lag := byteAt p 5
              gap := byteAt p 6, unit := unit, busy := busy, timeout := timeout, strobe := strobe, slipCheck := slip }

/-- The eleven fields as TARGET_GET reports them. -/
def Profile.bytes (f : Profile) : List Byte :=
  [f.divider, natByte f.clockMode.1, f.order.code, f.lead, f.lag, f.gap, natByte f.unit, f.busy.code]
    ++ halfBytes f.timeout ++ [flagByte f.strobe, flagByte f.slipCheck]

/-! ### Job definitions (R85 to R88, R203) -/

/-- A link field: 0 to 63, or FFh for none; none of the outer Option when out of range (R88). -/
def linkOf (b : Byte) : Option (Option (Fin 64)) :=
  if b = 0xFF then some none else (finOf 64 b).map some

/-- A window of two two-byte fields, in bounds (R86). -/
def windowOf (p : List Byte) (i : Nat) : Option Window :=
  let w : Window := { start := (halfAt p i).toNat, len := (halfAt p (i + 2)).toNat }
  if w.inBounds then some w else none

/-- The optional window of a presence field: none of the outer Option when it is present and out of bounds (R86). An absent
one is not checked. -/
def optWindowOf (present : Bool) (p : List Byte) (i : Nat) : Option (Option Window) :=
  if present then (windowOf p i).map some else some none

/-- The window rules of each kind (R86): A's length for POLL, and whether B is there. -/
def windowRules (k : Kind) (a : Window) (b : Option Window) : Bool :=
  match b with
  | some w => decide (w.len = a.len) && !w.overlaps a && decide (k ≠ .poll)
  | none => decide (k ≠ .exchange) && (decide (k ≠ .poll) || decide (a.len ≤ 16))

/-- The rules on the POLL fields (R87). -/
def pollRules (mask mtch retry : Byte) : Bool := decide (retry ≠ 0) && decide (mtch &&& ~~~mask = 0)

/-- The definition a JOB_DEFINE payload carries (offsets 1 to 23), none when a range or rule check fails. For a job not of
kind POLL the four POLL fields are 0, and an absent window B is held as none. -/
def parseJobDef (p : List Byte) : Option JobDef := do
  let target ← finOf 16 (byteAt p 1)
  let kind ← Kind.ofByte (byteAt p 2)
  let cls ← JobClass.ofByte (byteAt p 3)
  let winA ← windowOf p 4
  let present ← flagOf (byteAt p 8)
  let winB ← optWindowOf present p 9
  let source ← TrigSource.ofByte (byteAt p 15)
  let success ← linkOf (byteAt p 16)
  let failure ← linkOf (byteAt p 17)
  let notify ← flagOf (byteAt p 18)
  let isPoll := decide (kind = .poll)
  if windowRules kind winA winB && (!isPoll || pollRules (byteAt p 19) (byteAt p 20) (byteAt p 21)) then
    some { target := target, kind := kind, cls := cls, winA := winA, winB := winB, fill := byteAt p 13
           segment := byteAt p 14, source := source, success := success, failure := failure, notify := notify
           pollMask := if isPoll then byteAt p 19 else 0, pollMatch := if isPoll then byteAt p 20 else 0
           retryLimit := if isPoll then byteAt p 21 else 0, interval := if isPoll then halfAt p 22 else 0 }
  else none

/-- Window B as JOB_GET reports it: presence, start, length, 0 for both when absent (R90). -/
def windowBBytes : Option Window → List Byte
  | none => [0, 0, 0, 0, 0]
  | some w => 1 :: natBytes w.start ++ natBytes w.len

/-- The definition as JOB_GET reports it (offsets 1 to 23 of the JOB_DEFINE layout). -/
def JobDef.bytes (d : JobDef) : List Byte :=
  [natByte d.target.1, d.kind.code, d.cls.code] ++ natBytes d.winA.start ++ natBytes d.winA.len ++ windowBBytes d.winB
    ++ [d.fill, d.segment, d.source.code, jobOrNone d.success, jobOrNone d.failure, flagByte d.notify, d.pollMask
        , d.pollMatch, d.retryLimit] ++ halfBytes d.interval

/-- The eleven runtime fields as JOB_STATUS reports them (R204). -/
def Runtime.bytes (r : Runtime) : List Byte :=
  [r.state.code, flagByte r.cancel, flagByte r.pending, r.active.code, flagByte r.swap] ++ natBytes r.progress
    ++ halfBytes r.passCount ++ [r.overruns, r.lastEnding.code, r.lastFault.code, r.lastPoll]

/-! ### Notice records (R205) -/

/-- A notice record as the payload of its frame. -/
def Notice.bytes : Notice → List Byte
  | .started c => [1, c.code, Config.revision]
  | .jobDone j e m p b => [2, natByte j.1, e.code, m] ++ natBytes p ++ [b]
  | .jobFault j c f p => [3, natByte j.1, natByte c.1, f.code] ++ natBytes p
  | .overrun j i => [4, natByte j.1, i]
  | .noticeLost n => [5, n]

/-! ### The CRC and whole frames (R13, R14) -/

/-- One bit of the CRC: combined with the register's top bit, shift, and 1021h if the combined value was 1. -/
def crcBit (crc : Half) (bit : Bool) : Half :=
  if bit ^^ crc.msb then (crc <<< 1) ^^^ 0x1021 else crc <<< 1

/-- One byte, most significant bit first. -/
def crcByte (crc : Half) (b : Byte) : Half :=
  [7, 6, 5, 4, 3, 2, 1, 0].foldl (fun r i => crcBit r (b.getLsbD i)) crc

/-- The CRC of a run of bytes from FFFFh. -/
def crcOf (bs : List Byte) : Half := bs.foldl crcByte 0xFFFF

/-- The whole frame of a TAG, a TYPE and a payload. -/
def frameBytes (tag typ : Byte) (payload : List Byte) : List Byte :=
  let body := natByte payload.length :: tag :: typ :: payload
  Config.sync :: body ++ halfBytes (crcOf body)

/-- An answer's frame. -/
def Answer.frame (a : Answer) : List Byte := frameBytes a.tag a.typ a.payload

/-- A notice's frame: TAG 0, TYPE C0h. -/
def Notice.frame (n : Notice) : List Byte := frameBytes 0 Config.noticeType n.bytes

end Sys2Proof.Machine
end

