-- ==== Sys2Proof/Machine/EngineOps.lean ====
section
/-! DEFINITION. What a channel engine does between its events (08_the_channel_engine.md): the parts of a pass that several
commands share. Each takes the State and the pass in progress. A state whose time is zero is passed through at the event of
its entry (R140). -/
namespace Sys2Proof.Machine

/-- The pass the engine of channel c carries out. -/
def State.pass? (s : State) (c : Fin 4) : Option Pass :=
  match (s.eng c).job with
  | none => none
  | some j =>
    match (s.job j).defn with
    | none => none
    | some d => some { chan := c, job := j, defn := d, prof := s.target d.target }

/-! ### Times and levels of a profile (R69 to R75) -/

/-- Core clocks of one SCK period: (divider + 1) × 62.5 ns. -/
def Profile.period (p : Profile) : Nat := (p.divider.toNat + 1) * Config.clocksPerBase

/-- Core clocks of the lead, the lag and the byte gap. -/
def Profile.leadClocks (p : Profile) : Nat := p.lead.toNat * Config.clocksPerLeadUnit
def Profile.lagClocks (p : Profile) : Nat := p.lag.toNat * Config.clocksPerLeadUnit
def Profile.gapClocks (p : Profile) : Nat := p.gap.toNat * p.period

/-- The idle level of SCKc is high in clock modes 2 and 3 (R70). -/
def Profile.idleHigh (p : Profile) : Bool := decide (2 ≤ p.clockMode.1)

/-- SDIc is sampled at the first edge, the middle of the bit period, in clock modes 0 and 2 (R70). -/
def Profile.firstEdge (p : Profile) : Bool := decide (p.clockMode.1 % 2 = 0)

/-- The level means busy in the busy mode (R74). -/
def BusyMode.seesBusy (m : BusyMode) (level : Option Bool) : Bool :=
  match m with
  | .off => false
  | .activeHigh => decide (level = some true)
  | .activeLow => decide (level = some false)

/-- The level that means ready in the busy mode. -/
def BusyMode.readyLevel (m : BusyMode) : Bool :=
  match m with
  | .activeLow => true
  | .off | .activeHigh => false

/-- BUSYc as seen shows busy to the pass. -/
def State.seesBusy (s : State) (x : Pass) : Bool := x.prof.busy.seesBusy (s.busyLevel x.chan)

/-! ### Bits on the wire (R71) -/

/-- The bits of a byte in reverse order. -/
def reverseByte (b : Byte) : Byte :=
  BitVec.ofBoolListBE ((List.range 8).map (fun i => b.getLsbD i))

/-- The byte whose bits were sampled in the order of `wire`, first bit in bit 7. -/
def BitOrder.fromWire (o : BitOrder) (wire : Byte) : Byte :=
  match o with
  | .msbFirst => wire
  | .lsbFirst => reverseByte wire

/-- The bit that a byte puts on SDOc in its bit period i, counted from 0. -/
def BitOrder.bitOut (o : BitOrder) (b : Byte) (i : Nat) : Bool :=
  match o with
  | .msbFirst => b.getLsbD (7 - i)
  | .lsbFirst => b.getLsbD i

/-! ### Windows of a pass (R50, R147) -/

/-- Where the bytes sent come from: none for RECEIVE. -/
def sendWindow (d : JobDef) (sel : WinSel) : Option Window :=
  match d.kind with
  | .send => some (activeWindow d sel)
  | .exchange | .poll => some d.winA
  | .receive => none

/-- Where the bytes received go: none for SEND and POLL. -/
def recvWindow (d : JobDef) (sel : WinSel) : Option Window :=
  match d.kind with
  | .receive => some (activeWindow d sel)
  | .exchange => d.winB
  | .send | .poll => none

/-- A received byte of the kind is stored in memory. -/
def Kind.stores : Kind → Bool
  | .receive | .exchange => true
  | .send | .poll => false

/-- The address a byte sent from position `pos` is read from. -/
def State.readAddr (s : State) (x : Pass) (pos : Nat) : Nat :=
  match sendWindow x.defn (s.job x.job).rt.active with
  | some w => w.start + pos
  | none => Config.memSize

/-- The address a received byte is stored at: position p of the receiving window, p the job's progress (R50). -/
def State.storeAddr (s : State) (x : Pass) : Nat :=
  match recvWindow x.defn (s.job x.job).rt.active with
  | some w => w.start + (s.job x.job).rt.progress
  | none => Config.memSize

/-- Bytes of the pass whose eighth period has ended; for POLL, command bytes of the attempt. -/
def State.bytesEnded (s : State) (x : Pass) : Nat :=
  if x.defn.kind = .poll then (s.eng x.chan).attemptPos
  else (s.job x.job).rt.progress + (if (s.eng x.chan).owed then 1 else 0)

/-- The current job's cancel requested, as it stands (R106). -/
def State.cancelSet (s : State) (x : Pass) : Bool := (s.job x.job).rt.cancel

/-! ### Endings -/

/-- The engine gives up its pass and is IDLE: it keeps its served target and rest level (R139, R155). -/
def Engine.release (e : Engine) : Engine := { Engine.powerOn with served := e.served, restHigh := e.restHigh }

/-- The engine becomes IDLE, hands its reason to the job table, and a fresh choice becomes due (R155). -/
def State.finishPass (s : State) (x : Pass) (r : LagReason) : State :=
  ((s.setEng x.chan (s.eng x.chan).release).applyEnding x.chan x.job x.defn r).choiceDue x.chan

/-- The engine in LAG with a reason (R154). -/
def Engine.inLag (e : Engine) (p : Profile) (r : LagReason) : Engine :=
  { e with state := .lag, lag := some r, ended := false, interval := p.lagClocks }

/-- LAG is entered with a reason other than attempt end; a lag of 0 ends at once (R154). -/
def State.enterLag (s : State) (x : Pass) (r : LagReason) : State :=
  if x.prof.lag = 0 then s.finishPass x r else s.setEng x.chan ((s.eng x.chan).inLag x.prof r)

/-- An unblocked URGENT job stands in the queue, and the job is one that may be suspended: NORMAL with a segment size, no
cancel requested, its channel not held (R130, R133). -/
def State.suspensionAsked (s : State) (x : Pass) : Bool :=
  decide (x.defn.cls = .normal) && decide (x.defn.segment ≠ 0) && !s.cancelSet x && !(s.arb x.chan).held
    && (s.firstUnblocked x.chan .urgent).isSome

/-! ### Shifting (R146, R147) -/

/-- The byte that goes out at position `pos`, if the pass sends one there: read from memory, or the fill byte. -/
def nextOut (d : JobDef) (pos : Nat) : OutByte :=
  match d.kind with
  | .send | .exchange => if pos < d.winA.len then .waiting pos else .empty
  | .receive => if pos < d.winA.len then .held d.fill else .empty
  | .poll => if pos < d.winA.len then .waiting pos else if pos = d.winA.len then .held d.fill else .empty

/-- The read that a byte still waiting asks for. -/
def OutByte.asks : OutByte → List Ask
  | .waiting _ => [.read]
  | .empty | .held _ => []

/-- The engine at the start of SHIFT of the byte at position `pos`, where `busy` is what a slip sample would see (R146,
R153): the byte fetched behind moves up, the one after it is asked for. A byte whose read has not been granted yet, as the first
one after a lead of 0, leaves SDOc as it was until the grant (R72, R143; the model's choice, log entry 33). -/
def Engine.inShift (e : Engine) (d : JobDef) (p : Profile) (pos : Nat) (busy : Bool) : Engine :=
  let reply := decide (d.kind = .poll) && decide (pos = d.winA.len)
  let after := nextOut d (pos + 1)
  { e with
    state := .shift, asserted := true, replying := reply, cur := e.nxt, nxt := after, asks := e.asks ++ after.asks
    inByte := none, ended := false, interval := 8 * p.period
    slip := p.slipCheck && !reply && decide (1 ≤ e.unitPos) && busy
    sdo := match p.firstEdge, e.nxt with
      | true, .held b => p.order.bitOut b 0
      | _, _ => e.sdo }

/-- SHIFT of the next byte of the pass. -/
def State.startShift (s : State) (x : Pass) : State :=
  s.setEng x.chan ((s.eng x.chan).inShift x.defn x.prof (s.bytesEnded x) (s.seesBusy x))

/-! ### Busy waits and unit ends (R144, R151) -/

/-- After a busy wait, or where it would stand: steps 2 to 4 of R151. After the lead no byte of the stretch has been
shifted, so neither a last unit nor a preemption point is found there, and the first byte starts. The seen level is kept past the
wait (R144; the model's reading, log entry 35). -/
def State.afterBusy (s : State) (x : Pass) : State :=
  if x.defn.kind = .poll then s.startShift x
  else if x.defn.winA.len ≤ s.bytesEnded x then s.enterLag x (.passEnd .complete)
  else if decide (x.defn.segment.toNat ≤ (s.eng x.chan).segCount) && s.suspensionAsked x then s.enterLag x .suspension
  else s.startShift x

/-- BUSY_WAIT, which a ready level at entry ends at once (R144). -/
def State.enterBusy (s : State) (x : Pass) : State :=
  if x.prof.busy = .off || !s.seesBusy x then s.afterBusy x
  else s.setEng x.chan { s.eng x.chan with state := .busyWait, interval := x.prof.timeout.toNat }

/-- The steps of R151 at the end of UNIT_END, the last byte being complete; a cancel leads to LAG instead (R165). -/
def State.unitSteps (s : State) (x : Pass) : State :=
  let s := s.setEng x.chan { s.eng x.chan with unitPos := 0, ended := false }
  if s.cancelSet x then s.enterLag x .cancel else s.enterBusy x

/-- GAP, or at once the next byte (R150). -/
def State.enterGap (s : State) (x : Pass) : State :=
  if x.prof.gap = 0 then s.startShift x
  else s.setEng x.chan { s.eng x.chan with state := .gap, ended := false, interval := x.prof.gapClocks }

/-- The engine stays in its state until the last received byte is stored (R148). -/
def State.waitForStore (s : State) (x : Pass) : State :=
  s.setEng x.chan { s.eng x.chan with ended := true, interval := 0 }

/-! ### Byte ends (R148, R149, R153, R164) -/

/-- A byte is complete: the progress and the segment count go up by one (R148). -/
def State.countByte (s : State) (x : Pass) : State :=
  let r := (s.job x.job).rt
  let s := s.setEng x.chan { s.eng x.chan with segCount := (s.eng x.chan).segCount + 1, owed := false }
  s.setRt x.job { r with progress := r.progress + 1 }

/-- What follows the eighth period of a byte, its unit position being counted (R149). -/
def State.afterByte (s : State) (x : Pass) : State :=
  let e := s.eng x.chan
  if e.slip then (if e.owed then s.waitForStore x else s.enterLag x (.fault .slip))
  else if s.cancelSet x then (if e.owed then s.waitForStore x else s.enterLag x .cancel)
  else if decide (e.unitPos < x.prof.unit) && decide (s.bytesEnded x < x.defn.winA.len) then s.enterGap x
  else if x.prof.strobe then s.setEng x.chan { e with state := .unitEnd, ended := false, interval := x.prof.period }
  else if e.owed then s.waitForStore x
  else s.unitSteps x

/-- The engine goes on once the store it stayed for has been made (R148, R153, R164, R165). -/
def State.afterStore (s : State) (x : Pass) : State :=
  let e := s.eng x.chan
  if !e.ended then s
  else match e.state with
    | .shift =>
      if e.slip then s.enterLag x (.fault .slip)
      else if s.cancelSet x then s.enterLag x .cancel
      else s.unitSteps x
    | .gap => s.enterLag x .cancel
    | .unitEnd => s.unitSteps x
    | .idle | .lead | .busyWait | .pollWait | .lag => s

/-! ### Select assertion and lead (R141, R143, R157) -/

/-- The end of the lead: LAG for a cancel, else the busy wait, else the first byte (R143, R162). -/
def State.leadDone (s : State) (x : Pass) : State :=
  if s.cancelSet x then s.enterLag x .cancel else s.enterBusy x

/-- The select line is asserted and the lead starts; a lead of 0 ends at once (R141, R143). -/
def State.assertSelect (s : State) (x : Pass) : State :=
  let s := s.setEng x.chan { s.eng x.chan with state := .lead, asserted := true, interval := x.prof.leadClocks }
  if x.prof.lead = 0 then s.leadDone x else s

/-- The engine takes up the target: SCKc goes to its idle level, 62.5 ns before the assertion if that is a change (R141). -/
def State.selectTarget (s : State) (x : Pass) : State :=
  let e := s.eng x.chan
  if e.restHigh = x.prof.idleHigh then
    (s.setEng x.chan { e with served := some x.defn.target }).assertSelect x
  else
    s.setEng x.chan { e with state := .lead, asserted := false, served := some x.defn.target
                             restHigh := x.prof.idleHigh, interval := Config.clocksBeforeAssertion }

/-- The engine at a dispatch, a resumption or the start of a POLL attempt: counts empty, first byte asked for (R143, R156,
R157). -/
def Engine.begin (e : Engine) (j : Fin 64) (first : OutByte) : Engine :=
  { e.release with state := .lead, job := some j, nxt := first, asks := first.asks }

/-- A pass starts or goes on from its progress; a POLL job starts an attempt (R143, R156, R157). -/
def State.startPass (s : State) (x : Pass) : State :=
  let pos := if x.defn.kind = .poll then 0 else (s.job x.job).rt.progress
  (s.setEng x.chan ((s.eng x.chan).begin x.job (nextOut x.defn pos))).selectTarget x

/-! ### POLL attempts (R158 to R160) -/

/-- POLL_WAIT: select line released, SDOc low; an interval of 0 starts the next attempt at once (R160). -/
def State.enterPollWait (s : State) (x : Pass) : State :=
  if x.defn.interval = 0 then s.startPass x
  else
    let e := s.eng x.chan
    s.setEng x.chan { e.release with state := .pollWait, job := some x.job, interval := x.defn.interval.toNat }

/-- The attempt is counted and its reply kept (R159, step 1). -/
def State.countAttempt (s : State) (x : Pass) (reply : Byte) : State :=
  let r := (s.job x.job).rt
  s.setRt x.job { r with progress := r.progress + 1, lastPoll := reply }

/-- The end of an attempt-end LAG settles the attempt (R159). -/
def State.settleAttempt (s : State) (x : Pass) : State :=
  let reply := (s.eng x.chan).inByte.getD 0
  let s := s.countAttempt x reply
  if reply &&& x.defn.pollMask = x.defn.pollMatch then s.finishPass x (.passEnd .complete)
  else if x.defn.retryLimit.toNat ≤ (s.job x.job).rt.progress then s.finishPass x (.passEnd .noMatch)
  else if s.cancelSet x then s.finishPass x .cancel
  else if s.suspensionAsked x then s.finishPass x .suspension
  else s.enterPollWait x

/-- The reply byte has been shifted: LAG with reason attempt end (R158). -/
def State.enterAttemptLag (s : State) (x : Pass) : State :=
  if x.prof.lag = 0 then s.settleAttempt x else s.setEng x.chan ((s.eng x.chan).inLag x.prof .attemptEnd)

/-! ### Cancel and stop (R161 to R168) -/

/-- What a cancel just requested does at once: it ends BUSY_WAIT, GAP and POLL_WAIT. In the other states the engine reads
the flag later (R161 to R167). -/
def State.carryCancel (s : State) (x : Pass) : State :=
  let e := s.eng x.chan
  match e.state with
  | .busyWait => s.enterLag x .cancel
  | .gap => if e.owed then s.waitForStore x else s.enterLag x .cancel
  | .pollWait => s.finishPass x .cancel
  | .idle | .lead | .shift | .unitEnd | .lag => s

/-- The byte whose store is still waiting. -/
def Engine.storeWaiting (e : Engine) : Option Byte :=
  e.asks.findSome? (fun a => match a with | .store b => some b | .read => none)

/-- The store that an engine makes as it stops: a received byte whose last bit has arrived is stored, outside the rotation,
and counted (R168). -/
def State.storeAtStop (s : State) (x : Pass) : State :=
  match (s.eng x.chan).storeWaiting with
  | none => s
  | some b => (s.setMem (s.mem.write (s.storeAddr x) b)).countByte x

/-- The engine of channel c stops at once; it keeps its served target and rest level (R168). -/
def State.stopEngine (s : State) (c : Fin 4) : State :=
  let s := match s.pass? c with
    | none => s
    | some x => s.storeAtStop x
  s.setEng c (s.eng c).release

/-- Apply f to the pass of channel c; nothing happens when there is none. -/
def State.onPass (s : State) (c : Fin 4) (f : Pass → State) : State :=
  match s.pass? c with
  | none => s
  | some x => f x

end Sys2Proof.Machine
end

