-- ==== Sys2Proof/Machine/LinkOps.lean ====
section
/-! DEFINITION. The link controller and the interpreter's hand-overs: acceptance, replay and refusal (R22 to R25), answers
(R26, R37), the transmitter (R27, R28), the receiver (R15 to R19), and the two resets (R2, R46). -/
namespace Sys2Proof.Machine

/-! ### Request places -/

/-- The free place an accepted frame or a replayed answer goes into; which one is not observable (log entry 13). -/
def State.freePlace (s : State) : Option (Fin 4) := allChannels.find? (fun p => decide (s.place p = .empty))

/-- An answer joins the answer queue (R26). -/
def State.enqueueAnswer (s : State) (r : AnswerRef) : State :=
  { s with link := { s.link with answers := s.link.answers ++ [r] } }

/-- The interpreter takes the earliest waiting request, or is IDLE (R32). -/
def State.takeNext (s : State) : State :=
  match s.link.waiting with
  | [] => { s with interp := .idle }
  | p :: ps => { s with interp := .executing p .fresh, link := { s.link with waiting := ps } }

/-- The answer is kept in the replay memory if its request is still the last accepted one (R23). -/
def Replay.keep (e : Replay) (p : Fin 4) (a : Answer) : Replay :=
  if e.place = p ∧ e.answer = none then { e with answer := some a } else e

/-- The answer to request r in place p is produced and placed (R37). The interpreter's next state is not chosen here. -/
def State.placeAnswer (s : State) (p : Fin 4) (r : Request) (res : Result) (data : List Byte) : State :=
  let a : Answer := { tag := r.tag, typ := answerType r.typ, payload := res.code :: data }
  let s := (s.setPlace p (.answered r a)).enqueueAnswer (.place p)
  { s with link := { s.link with replay := s.link.replay.map (fun e => e.keep p a) } }

/-- The answer is placed and the interpreter takes the next request (R32, R37). -/
def State.reply (s : State) (p : Fin 4) (r : Request) (res : Result) (data : List Byte) : State :=
  (s.placeAnswer p r res data).takeNext

/-- A frame that is refused is answered FULL from the refusal place, or dropped and counted (R25). -/
def State.refuse (s : State) (tag typ : Byte) : State :=
  match s.link.refusal with
  | some _ => { s with link := { s.link with dropped := satInc16 s.link.dropped } }
  | none =>
    let a : Answer := { tag := tag, typ := answerType typ, payload := [Result.full.code] }
    State.enqueueAnswer { s with link := { s.link with refusal := some a } } .refusal

/-- A frame is accepted into place p (R22, R23, R32, R42). -/
def State.accept (s : State) (p : Fin 4) (tag typ : Byte) (payload : List Byte) (crc : Half) : State :=
  let r : Request :=
    { tag := tag, typ := typ, payload := payload, claimHeld := decide (typ = 0x02) && s.claim.isSome }
  let s := s.setPlace p (.request r)
  let s := { s with link := { s.link with replay := some { tag := tag, crc := crc, place := p, answer := none } } }
  match s.interp with
  | .idle => { s with interp := .executing p .fresh }
  | .executing _ _ | .resetWait _ => { s with link := { s.link with waiting := s.link.waiting ++ [p] } }

/-- A duplicate of the last accepted request is discarded, replayed or refused (R24). -/
def State.duplicate (s : State) (e : Replay) (tag typ : Byte) : State :=
  match e.answer with
  | none => s
  | some a =>
    match s.freePlace with
    | some p => (s.setPlace p (.replayed a)).enqueueAnswer (.place p)
    | none => s.refuse tag typ

/-- The frame is a duplicate: the entry's TAG and CRC equal the frame's (R22). -/
def State.duplicateOf (s : State) (tag : Byte) (crc : Half) : Option Replay :=
  s.link.replay.filter (fun e => decide (e.tag = tag) && decide (e.crc = crc))

/-- A good frame is dealt with (R22). -/
def State.goodFrame (s : State) (tag typ : Byte) (payload : List Byte) (crc : Half) : State :=
  match s.duplicateOf tag crc with
  | some e => s.duplicate e tag typ
  | none =>
    match s.freePlace with
    | some p => s.accept p tag typ payload crc
    | none => s.refuse tag typ

/-! ### The receiver -/

def State.setRx (s : State) (r : Receiver) : State := { s with link := { s.link with rx := r } }

/-- A format error discards the partial frame and returns the receiver to HUNT (R16, R18, R19). -/
def State.formatError (s : State) : State :=
  { s with link := { s.link with rx := .hunting, formatErrors := satInc16 s.link.formatErrors } }

/-- A format error if the receiver is inside a frame; nothing in HUNT (R15, R18, R19). -/
def State.breakFrame (s : State) : State := if s.link.rx.state = .hunt then s else s.formatError

/-- The LEN of the partial frame. -/
def Receiver.len (r : Receiver) : Nat := (byteAt r.got 0).toNat

/-- The second CRC byte: the frame is compared, and handed on or discarded (R17). -/
def State.checkFrame (s : State) (crcHigh : Byte) : State :=
  let r := s.link.rx
  let sent : Half := (crcHigh ++ byteAt r.got (3 + r.len) : BitVec 16)
  let s := s.setRx .hunting
  if sent = r.crc then s.goodFrame (byteAt r.got 1) (byteAt r.got 2) ((r.got.drop 3).take r.len) sent
  else { s with link := { s.link with checkFailures := satInc16 s.link.checkFailures } }

/-- A byte is passed to the frame receiver (R15 to R17). -/
def State.rxByte (s : State) (b : Byte) : State :=
  let r := s.link.rx
  let got := r.got ++ [b]
  match r.state with
  | .hunt => if b = Config.sync then s.setRx { state := .header, got := [], crc := 0xFFFF } else s
  | .header =>
    if r.got = [] ∧ Config.maxPayload < b.toNat then s.formatError
    else
      let next := if got.length < 3 then RxState.header else if byteAt got 0 = 0 then .check else .body
      s.setRx { state := next, got := got, crc := crcByte r.crc b }
  | .body =>
    let next := if got.length < 3 + r.len then RxState.body else .check
    s.setRx { state := next, got := got, crc := crcByte r.crc b }
  | .check => if got.length ≤ 3 + r.len + 1 then s.setRx { r with got := got } else s.checkFrame b

/-! ### The resets -/

/-- Every block but the link's pins, the straps, buffer memory and the input sampling takes its value of power-on or of the
RESET request; the two agree in these (R30, R31, R46, R49, R51, R52, R68, R111, R112, R137, R138, R139, R196, R197). -/
def State.clearBlocks (s : State) : State :=
  { s with
    link := .powerOn, interp := .idle, claim := none, rotation := 4
    targets := Vector.replicate 16 .default
    jobs := Vector.replicate 64 .free
    timers := Vector.replicate 4 .powerOn
    lines := s.lines.map (fun l => { l with sel := .off })
    arbs := Vector.replicate 4 .powerOn
    engs := Vector.replicate 4 .powerOn
    notices := .powerOn }

/-- Every engine stops at once (R168). The spec gives the engines' stores at that moment no order (R46, R54, R168, R182): CH0
first and CH3 last is the model's choice (log entry 31), so that of two stores to one address the higher channel's byte stays. -/
def State.stopAll (s : State) : State := allChannels.foldl State.stopEngine s

/-- The reset of the RESET request, and its STARTED record (R46, R47). -/
def State.resetRequest (s : State) : State := (s.stopAll.clearBlocks).hand (.started .resetRequest)

/-- RSTn low takes effect inside the part (R2). -/
def State.powerOn (s : State) : State :=
  let s := s.stopAll.clearBlocks
  { s with
    phase := .held, clearPos := 0, usPhase := 0
    spi := { s.spi with ignored := false, slot := none }
    lines := s.lines.map (fun l => { l with seen := none })
    busySeen := Vector.replicate 4 none }

/-! ### The transmitter -/

/-- The answer a reference stands for. -/
def State.answerOf (s : State) (r : AnswerRef) : Option Answer :=
  match r with
  | .refusal => s.link.refusal
  | .place p =>
    match s.place p with
    | .answered _ a | .replayed a => some a
    | .empty | .request _ => none

/-- Core clocks of one UART character: ten bit times (R10). -/
def Straps.charClocks (t : Straps) : Nat := 10 * Config.uartBitClocks t.br1 t.br0

/-- A frame starts. -/
def State.startFrame (s : State) (src : Source) (bytes : List Byte) : State :=
  { s with link := { s.link with tx := some { source := src, bytes := bytes, sent := 0 }
                                 txClocks := if s.straps.spi then 0 else s.straps.charClocks } }

/-- The choice at a frame boundary: the oldest answer, else the oldest notice record if notices are not paused, which leaves
its queue as its frame starts (R27, R192). -/
def State.frameBoundary (s : State) : State :=
  match s.link.tx, s.link.answers with
  | some _, _ => s
  | none, r :: _ =>
    match s.answerOf r with
    | some a => s.startFrame (.answer r) a.frame
    | none => s
  | none, [] =>
    match s.notices.paused, s.notices.records with
    | false, n :: _ => (s.startFrame .notice n.frame).setNotices s.notices.depart
    | _, _ => s

/-- In UART mode a frame boundary stands whenever the transmitter is idle (R27); the UART needs the clock (log entry 9). -/
def State.uartBoundary (s : State) : State :=
  if s.timed && !s.straps.spi then s.frameBoundary else s

/-- An answer's frame has been sent whole: the answer leaves the queue and its place is free (R21, R26). -/
def State.freeAnswer (s : State) (r : AnswerRef) : State :=
  let s := { s with link := { s.link with answers := s.link.answers.erase r } }
  match r with
  | .refusal => { s with link := { s.link with refusal := none } }
  | .place p => s.setPlace p .empty

/-- A frame has been sent whole. The last byte of the RESET answer makes the reset take effect (R44). -/
def State.frameSent (s : State) (src : Source) : State :=
  let s := { s with link := { s.link with tx := none, txClocks := 0 } }
  match src with
  | .notice => s
  | .answer r =>
    let s := s.freeAnswer r
    match s.interp, r with
    | .resetWait p, .place q => if p = q then s.resetRequest else s
    | _, _ => s

/-- A byte of the frame in progress has been sent (R12, R21). -/
def State.txByteSent (s : State) : State :=
  match s.link.tx with
  | none => s
  | some f =>
    if f.sent + 1 < f.bytes.length then
      { s with link := { s.link with tx := some { f with sent := f.sent + 1 }
                                     txClocks := if s.straps.spi then 0 else s.straps.charClocks } }
    else s.frameSent f.source

/-- An SPI byte slot begins: the next byte of the frame, a new frame, or the idle fill; during start-up always the fill (R6,
R12). -/
def State.slotStart (s : State) : State :=
  let s := if s.phase = .running then s.frameBoundary else s
  let kind := if s.link.tx.isSome then Slot.frameByte else Slot.fill
  { s with spi := { s.spi with slot := some kind } }

/-- The answer of exec: the next state, after the frame boundary an idle UART transmitter stands at (R27). The records that one
command hands, and its answer, all join their queues before that boundary (R185; the model's choice, log entry 32). -/
def State.done (s : State) : Host.Outcome State Fault Refusal := .next s.uartBoundary

end Sys2Proof.Machine
end

