-- ==== Sys2Proof/Machine/EngineEvents.lean ====
section
/-! DEFINITION. Timer expiries and line edges (07), the fresh choice (07), and the events of a pass (08). -/
namespace Sys2Proof.Machine

/-- TIMER_EXPIRY: a timer whose count has reached 0 is loaded again with its full period and triggers the jobs that name it
(R118). A TIMER_SET taken before it has loaded a full count or discarded the count, and there is then no such expiry (R120). -/
def execTimerExpiry (n : Fin 4) (s : State) : Host.Outcome State Fault Refusal :=
  match s.timed, (s.timer n).count with
  | true, some 0 =>
    ((s.setTimer n { s.timer n with count := some (s.timer n).period.toNat }).triggerAll (.timer n)).done
  | _, _ => .next s

/-- An edge to the level matches the selection (R121). -/
def EdgeSel.hits (e : EdgeSel) (rising : Bool) : Bool :=
  match e with
  | .off => false
  | .rising => rising
  | .falling => !rising
  | .both => true

/-- LINE_EDGE: the first level seen is the reference level; each change is an edge, which triggers the jobs that name the
line if it matches (R9, R121). -/
def execLineEdge (n : Fin 4) (level : Bool) (s : State) : Host.Outcome State Fault Refusal :=
  if s.timed then
    let l := s.line n
    let t := s.setLine n { l with seen := some level }
    if l.seen = some (!level) && l.sel.hits level then (t.triggerAll (.line n)).done else t.done
  else .next s

/-! ### The fresh choice (R126) -/

/-- A READY job is dispatched: RUNNING with progress 0, and its pass starts (R92, R143). -/
def State.dispatch (s : State) (c : Fin 4) (j : Fin 64) : State :=
  match (s.job j).defn with
  | none => s
  | some d =>
    (s.setRt j { (s.job j).rt with state := .running, progress := 0 }).startPass
      { chan := c, job := j, defn := d, prof := s.target d.target }

/-- The suspended job is resumed: RUNNING with its progress kept, and its pass goes on (R94, R136, R156). -/
def State.resume (s : State) (c : Fin 4) (j : Fin 64) : State :=
  match (s.job j).defn, (s.job j).rt.state with
  | some d, .suspended =>
    let s := s.setArb c { s.arb c with slot := none }
    (s.setRt j { (s.job j).rt with state := .running }).startPass
      { chan := c, job := j, defn := d, prof := s.target d.target }
  | _, _ => s

/-- What the arbiter takes: an unblocked URGENT job, else the suspended job, else an unblocked NORMAL job (R126). -/
def State.choose (s : State) (c : Fin 4) : State :=
  match s.firstUnblocked c .urgent with
  | some j => s.dispatch c j
  | none =>
    match (s.arb c).slot with
    | some j => s.resume c j
    | none =>
      match s.firstUnblocked c .normal with
      | some j => s.dispatch c j
      | none => s

/-- FRESH_CHOICE: the choice that is due is made on the state it finds; an engine not IDLE or a channel held makes no dispatch
(R125, R126). -/
def execFreshChoice (c : Fin 4) (s : State) : Host.Outcome State Fault Refusal :=
  if s.live && (s.arb c).choiceDue then
    let t := s.setArb c { s.arb c with choiceDue := false }
    if decide ((s.eng c).state = .idle) && !(s.arb c).held then (t.choose c).done else t.done
  else .next s

/-! ### Events of a pass -/

/-- An event of channel c's engine, which acts when `can` holds of the engine and does not occur otherwise. -/
def State.engineEvent (s : State) (c : Fin 4) (can : Bool) (f : Pass → State) : Host.Outcome State Fault Refusal :=
  if s.timed && can then (s.onPass c f).done else .next s

/-- SELECT_ASSERTION: 62.5 ns after SCKc's change of level the select line is asserted and the lead starts (R141). -/
def execSelectAssertion (c : Fin 4) (s : State) : Host.Outcome State Fault Refusal :=
  s.engineEvent c (decide ((s.eng c).state = .lead) && !(s.eng c).asserted) s.assertSelect

/-- LEAD_END (R143, R162). -/
def execLeadEnd (c : Fin 4) (s : State) : Host.Outcome State Fault Refusal :=
  s.engineEvent c (decide ((s.eng c).state = .lead) && (s.eng c).asserted) s.leadDone

/-- BUSY_READY: BUSYc is seen ready, the wait ends and the pass goes on (R144). The ready level stays the seen level of the
sampling, where R144 also says that the wait discards it (the model's reading, log entry 35). -/
def execBusyReady (c : Fin 4) (s : State) : Host.Outcome State Fault Refusal :=
  s.engineEvent c (decide ((s.eng c).state = .busyWait)) fun x =>
    (s.setBusyLevel c x.prof.busy.readyLevel).afterBusy x

/-- BUSY_TIMEOUT: LAG with reason fault (R145). -/
def execBusyTimeout (c : Fin 4) (s : State) : Host.Outcome State Fault Refusal :=
  s.engineEvent c (decide ((s.eng c).state = .busyWait)) fun x => s.enterLag x (.fault .busyTimeout)

/-- The outbound byte does not wait for its read. -/
def OutByte.here : OutByte → Bool
  | .waiting _ => false
  | .empty | .held _ => true

/-- The byte in SHIFT can end: its own byte has been read and no earlier store is still waiting, as R53 ensures. -/
def Engine.byteCanEnd (e : Engine) : Bool :=
  decide (e.state = .shift) && !e.ended && e.cur.here && (e.inByte.isSome || e.storeWaiting.isNone)

/-- A received byte of RECEIVE or EXCHANGE at the end of its eighth period: complete if it has been stored, else its store is
asked for and the byte waits (R148). -/
def State.endStored (s : State) (x : Pass) (b : Byte) : State :=
  let e := s.eng x.chan
  if e.inByte.isSome && e.storeWaiting.isNone then s.countByte x
  else if e.inByte.isSome then s.setEng x.chan { e with owed := true }
  else s.setEng x.chan { e with inByte := some b, asks := e.asks ++ [.store b], owed := true }

/-- SDOc after the eighth bit period: the last bit of the byte sent (R142). -/
def Engine.lastLevel (e : Engine) (order : BitOrder) : Bool :=
  match e.cur with
  | .held b => order.bitOut b 7
  | .empty | .waiting _ => e.sdo

/-- The end of the eighth bit period of the byte whose bits were `b` (R148, R149, R158). -/
def State.endByte (s : State) (x : Pass) (b : Byte) : State :=
  let e := s.eng x.chan
  let sdo := e.lastLevel x.prof.order
  if e.replying then
    (s.setEng x.chan { e with sdo := sdo, inByte := some (e.inByte.getD b) }).enterAttemptLag x
  else
    let s := s.setEng x.chan { e with sdo := sdo, unitPos := e.unitPos + 1 }
    let s := match x.defn.kind with
      | .send => s.countByte x
      | .poll => s.setEng x.chan { s.eng x.chan with attemptPos := e.attemptPos + 1 }
      | .receive | .exchange => s.endStored x b
    s.afterByte x

/-- BYTE_END; `wire` are the bits sampled, which LAST_BIT_ARRIVED has already brought where it came before (R149). -/
def execByteEnd (c : Fin 4) (wire : Byte) (s : State) : Host.Outcome State Fault Refusal :=
  s.engineEvent c (s.eng c).byteCanEnd fun x => s.endByte x (x.prof.order.fromWire wire)

/-- GAP_END: SHIFT of the next byte of the unit (R150). -/
def execGapEnd (c : Fin 4) (s : State) : Host.Outcome State Fault Refusal :=
  s.engineEvent c (decide ((s.eng c).state = .gap) && !(s.eng c).ended) s.startShift

/-- UNIT_END_COMPLETE: the strobe pulse ends; the steps of R151 are taken once the last byte is complete (R148, R151). -/
def execUnitEndComplete (c : Fin 4) (s : State) : Host.Outcome State Fault Refusal :=
  s.engineEvent c (decide ((s.eng c).state = .unitEnd) && !(s.eng c).ended) fun x =>
    if (s.eng c).owed then s.waitForStore x else s.unitSteps x

/-- The end of a LAG with the reason recorded (R155, R159). -/
def State.lagDone (s : State) (x : Pass) : State :=
  match (s.eng x.chan).lag with
  | none => s
  | some .attemptEnd => s.settleAttempt x
  | some r => s.finishPass x r

/-- LAG_END (R155). -/
def execLagEnd (c : Fin 4) (s : State) : Host.Outcome State Fault Refusal :=
  s.engineEvent c (decide ((s.eng c).state = .lag)) s.lagDone

/-- POLL_INTERVAL_END: the next attempt starts (R160). -/
def execPollIntervalEnd (c : Fin 4) (s : State) : Host.Outcome State Fault Refusal :=
  s.engineEvent c (decide ((s.eng c).state = .pollWait)) s.startPass

/-- BUSY_LEVEL_SEEN: the level becomes the seen level; a busy wait that it shows ready ends (R144). -/
def execBusyLevelSeen (c : Fin 4) (high : Bool) (s : State) : Host.Outcome State Fault Refusal :=
  if s.timed then
    let t := s.setBusyLevel c high
    (if (s.eng c).state = .busyWait then t.onPass c (fun x => if t.seesBusy x then t else t.afterBusy x) else t).done
  else .next s

/-- The last bit of a byte to be stored or kept has arrived, in clock modes 0 and 2: a store is asked for, a POLL reply is
held (R148, R158). A byte that is discarded leaves no trace. -/
def State.bitsArrived (s : State) (x : Pass) (b : Byte) : State :=
  let e := s.eng x.chan
  if !x.prof.firstEdge then s
  else if e.replying then s.setEng x.chan { e with inByte := some b }
  else if x.defn.kind.stores then s.setEng x.chan { e with inByte := some b, asks := e.asks ++ [.store b] }
  else s

/-- LAST_BIT_ARRIVED (R148). -/
def execLastBitArrived (c : Fin 4) (wire : Byte) (s : State) : Host.Outcome State Fault Refusal :=
  s.engineEvent c ((s.eng c).byteCanEnd && (s.eng c).inByte.isNone) fun x =>
    s.bitsArrived x (x.prof.order.fromWire wire)

end Sys2Proof.Machine
end

