-- ==== Sys2Proof/Machine/Flags.lean ====
section
/-! DEFINITION. The output pins, computed from State as the manual derives them: the channel pins (R70, R140 to R142), ATTN
(R29) and LTX/LSDO (R4, R10, R12), all forced to their levels of R2 while RSTn is low. -/
namespace Sys2Proof.Machine

/-- The outputs are forced: RSTn is low, with or without a clock (R2). -/
def State.forced (s : State) : Bool := s.rstnLow

/-- The engine states in which the served target's select line is active (R140); in LEAD only once asserted (R141). -/
def Engine.selecting (e : Engine) : Bool :=
  match e.state with
  | .lead => e.asserted
  | .busyWait | .shift | .gap | .unitEnd | .lag => true
  | .idle | .pollWait => false

/-- SELc{line}n is active (low). -/
def State.selActive (s : State) (c line : Fin 4) : Bool :=
  !s.forced && (s.eng c).selecting && decide ((s.eng c).served.map selectOf = some line)

/-- Core clocks since the start of the byte in SHIFT (R146). -/
def Engine.shiftClocks (e : Engine) (p : Profile) : Nat := 8 * p.period - e.interval

/-- SCKc is away from its idle level: the second half of a bit period (R70). -/
def Engine.sckAway (e : Engine) (p : Profile) : Bool :=
  decide (e.state = .shift) && decide (p.period / 2 ≤ e.shiftClocks p % p.period)

/-- Bits of the byte in SHIFT that have been put on SDOc: each at the start of its period in the first-edge modes, at its
middle in the second-edge modes (R70). -/
def Engine.bitsOut (e : Engine) (p : Profile) : Nat :=
  if p.firstEdge then min 8 (e.shiftClocks p / p.period + 1) else (e.shiftClocks p + p.period / 2) / p.period

/-- The level on SDOc: in SHIFT the last bit put there, else as the last event left it (R142). Two levels are the model's: SDOc
stays as left while the byte in SHIFT waits for its read (R72, R143; log entry 33), and in modes 1 and 3 the first half period
after the busy wait of a unit end carries the last bit of the byte before (R142; log entry 34). -/
def Engine.sdoLevel (e : Engine) (p : Profile) : Bool :=
  match e.state, e.cur, e.bitsOut p with
  | .shift, .held b, n + 1 => p.order.bitOut b n
  | _, _, _ => e.sdo

/-- The level of SCKc: the rest level, which is the served target's idle level, but for the bit periods (R70, R141). -/
def State.sckHigh (s : State) (c : Fin 4) : Bool :=
  let e := s.eng c
  !s.forced && (e.restHigh ^^ e.served.any (fun t => e.sckAway (s.target t)))

/-- The level of SDOc (R142). -/
def State.sdoHigh (s : State) (c : Fin 4) : Bool :=
  let e := s.eng c
  !s.forced && (e.served.elim e.sdo (fun t => e.sdoLevel (s.target t)))

/-- STBc is high: the strobe pulse of UNIT_END (R150). -/
def State.stbHigh (s : State) (c : Fin 4) : Bool :=
  !s.forced && decide ((s.eng c).state = .unitEnd) && !(s.eng c).ended

/-- The answer whose frame is in progress. -/
def Link.sending (l : Link) : Option AnswerRef :=
  match l.tx with
  | some { source := .answer r, .. } => some r
  | _ => none

/-- An answer is in the answer queue and its frame has not started (R29). -/
def Link.answerWaits (l : Link) : Bool := l.answers.any (fun r => decide (l.sending ≠ some r))

/-- ATTN is active (low) (R29, R2). -/
def State.attnActive (s : State) : Bool :=
  !s.forced && (s.link.answerWaits || (!s.notices.records.isEmpty && !s.notices.paused) || s.link.tx.isSome)

/-- What stands on LTX/LSDO: a level, no level, or in SPI mode the byte whose bits the host clocks out. -/
inductive LtxPin where
  | high
  | low
  | highZ
  | shifting (b : Byte)
  deriving DecidableEq, Repr

/-- The next unsent byte of the frame in progress. -/
def Link.txByte (l : Link) : Option Byte := l.tx.bind (fun f => f.bytes[f.sent]?)

/-- The level of a UART character at its present point: a start bit (low), 8 data bits, least significant first, and a stop bit
(R10). -/
def State.uartHigh (s : State) (b : Byte) : Bool :=
  match (s.straps.charClocks - s.link.txClocks) / Config.uartBitClocks s.straps.br1 s.straps.br0 with
  | 0 => false
  | i + 1 => decide (8 ≤ i) || b.getLsbD i

/-- LTX/LSDO: in UART mode high between characters, in SPI mode high-impedance outside a transaction (R4, R6, R10,
R12). -/
def State.ltx (s : State) : LtxPin :=
  if s.forced then .high
  else if s.straps.spi then
    match s.spi.slot with
    | none => .highZ
    | some .fill => .shifting 0
    | some .frameByte => .shifting (s.link.txByte.getD 0)
  else match s.link.txByte with
    | some b => if s.uartHigh b then .high else .low
    | none => .high

/-- Request places occupied, as STATUS counts them (R42). -/
def Link.occupied (l : Link) : Nat := l.places.toList.countP (fun p => decide (p ≠ .empty))

end Sys2Proof.Machine
end

