-- ==== Sys2Proof/Machine/Requests.lean ====
section
/-! DEFINITION. The interpreter carrying out a request (03), the requests on the part as a whole, on targets (05) and on
buffer memory (04). -/
namespace Sys2Proof.Machine

/-- The request the interpreter is executing and has not carried out yet, and its place (R32, R33). -/
def State.current (s : State) : Option (Fin 4 × Request) :=
  match s.interp with
  | .executing p .fresh =>
    match s.place p with
    | .request r => if s.live then some (p, r) else none
    | .empty | .answered _ _ | .replayed _ => none
  | .idle | .resetWait _ | .executing _ (.writing _ _ _) | .executing _ (.reading _ _ _) => none

/-- Carry out the current request if its TYPE is `code`: a LEN not permitted is answered BAD_LENGTH, else `body` acts (R35).
The command of another TYPE does not occur (log entry 28). -/
def State.serve (s : State) (code : Byte) (body : Fin 4 → Request → State) : Host.Outcome State Fault Refusal :=
  match s.current with
  | none => .next s
  | some (p, r) =>
    if r.typ ≠ code then .next s
    else if permittedLen code r.payload.length then (body p r).done
    else (s.reply p r .badLength []).done

/-- UNKNOWN_REQUEST_TYPE: BAD_TYPE, whatever the length (R34). -/
def execUnknownRequestType (s : State) : Host.Outcome State Fault Refusal :=
  match s.current with
  | none => .next s
  | some (p, r) => if requestCodes.contains r.typ then .next s else (s.reply p r .badType []).done

/-- What IDENTIFY reports (R40, R204). -/
def State.identity (s : State) : List Byte :=
  [0x4E, 0x64, 0x4C, Config.revision, 4, 16, 64, 0x00, 0x20, 32, flagByte s.straps.spi
    , flagByte s.straps.br1 * 2 + flagByte s.straps.br0]

/-- IDENTIFY (R40). -/
def execIdentify (s : State) : Host.Outcome State Fault Refusal :=
  s.serve 0x01 fun p r => s.reply p r .ok s.identity

/-- The five STATUS fields of channel c (R41). -/
def State.channelStatus (s : State) (c : Fin 4) : List Byte :=
  [(s.eng c).state.code, jobOrNone (s.runningJob c), jobOrNone (s.arb c).slot, flagByte (s.arb c).held
    , natByte (s.readyQueue c).length]

/-- What STATUS reports; `held` is the write-claim record of the request (R41, R42, R204). -/
def State.statusBytes (s : State) (held : Bool) : List Byte :=
  allChannels.flatMap s.channelStatus
    ++ [natByte s.link.occupied, natByte s.notices.records.length, s.notices.lost, flagByte s.notices.paused]
    ++ halfBytes s.link.checkFailures ++ halfBytes s.link.formatErrors ++ halfBytes s.link.dropped ++ [flagByte held]

/-- The three link counters at 0 (R43). -/
def State.clearCounters (s : State) : State :=
  { s with link := { s.link with checkFailures := 0, formatErrors := 0, dropped := 0 } }

/-- STATUS (R41 to R43). -/
def execStatus (s : State) : Host.Outcome State Fault Refusal :=
  s.serve 0x02 fun p r =>
    match flagOf (byteAt r.payload 0) with
    | none => s.reply p r .badArg []
    | some clear => (if clear then s.clearCounters else s).reply p r .ok (s.statusBytes r.claimHeld)

/-- RESET: answered OK, and the interpreter waits for that answer to be sent (R44). -/
def execReset (s : State) : Host.Outcome State Fault Refusal :=
  s.serve 0x03 fun p r => (s.placeAnswer p r .ok []).setInterp (.resetWait p)

/-- NOTICE_CONTROL: the fields are read after the flag has been changed (R194). -/
def execNoticeControl (s : State) : Host.Outcome State Fault Refusal :=
  s.serve 0x04 fun p r =>
    match flagOf (byteAt r.payload 0) with
    | none => s.reply p r .badArg []
    | some b => (s.setNotices { s.notices with paused := b }).reply p r .ok
        [flagByte b, natByte s.notices.records.length, s.notices.lost]

/-! ### Targets (R77 to R79) -/

/-- A job that uses target t is RUNNING or SUSPENDED (R78). -/
def State.targetInUse (s : State) (t : Fin 16) : Bool :=
  allJobs.any (fun j => (s.job j).rt.state.inUse && decide ((s.job j).defn.map (·.target) = some t))

/-- TARGET_SET (R77, R78). -/
def execTargetSet (s : State) : Host.Outcome State Fault Refusal :=
  s.serve 0x10 fun p r =>
    match finOf 16 (byteAt r.payload 0), parseProfile r.payload with
    | some t, some f =>
      if s.targetInUse t then s.reply p r .targetInUse [] else (s.setTarget t f).reply p r .ok []
    | _, _ => s.reply p r .badArg []

/-- TARGET_GET (R79). -/
def execTargetGet (s : State) : Host.Outcome State Fault Refusal :=
  s.serve 0x11 fun p r =>
    match finOf 16 (byteAt r.payload 0) with
    | none => s.reply p r .badArg []
    | some t => s.reply p r .ok (natByte t.1 :: (s.target t).bytes)

/-! ### Buffer memory (R56 to R61) -/

/-- The range of a MEM_WRITE or MEM_READ lies in memory (R56, R61). -/
def inMemory (addr n : Nat) : Bool := decide (addr < Config.memSize) && decide (addr + n ≤ Config.memSize)

/-- MEM_WRITE: the checks, then the write claim; the bytes follow by grants (R56, R57). -/
def execMemWrite (s : State) : Host.Outcome State Fault Refusal :=
  s.serve 0x18 fun p r =>
    let addr := (halfAt r.payload 0).toNat
    let data := r.payload.drop 2
    let range : Window := { start := addr, len := data.length }
    if !inMemory addr data.length then s.reply p r .badArg []
    else if s.windowsInUse.any range.overlaps then s.reply p r .windowBusy []
    else { s with claim := some range, interp := .executing p (.writing addr data 0) }

/-- MEM_WRITE_DONE: the last byte has been written; the claim is released, OK is placed, and a fresh choice is due (R58). -/
def execMemWriteDone (s : State) : Host.Outcome State Fault Refusal :=
  match s.interp with
  | .executing p (.writing _ data done) =>
    match s.place p with
    | .request r =>
      if s.live && decide (data.length ≤ done) then
        (State.reply { s with claim := none } p r .ok []).choiceDueAll.done
      else .next s
    | .empty | .answered _ _ | .replayed _ => .next s
  | .idle | .resetWait _ | .executing _ .fresh | .executing _ (.reading _ _ _) => .next s

/-- MEM_READ: the checks; the bytes follow by grants, with no claim (R61). -/
def execMemRead (s : State) : Host.Outcome State Fault Refusal :=
  s.serve 0x19 fun p r =>
    let addr := (halfAt r.payload 0).toNat
    let count := (byteAt r.payload 2).toNat
    if !inMemory addr count || decide (count = 0) || decide (236 < count) then s.reply p r .badArg []
    else s.setInterp (.executing p (.reading addr count []))

/-- MEM_READ_DONE: OK with the bytes in address order (R61). -/
def execMemReadDone (s : State) : Host.Outcome State Fault Refusal :=
  match s.interp with
  | .executing p (.reading _ count got) =>
    match s.place p with
    | .request r =>
      if s.live && decide (count ≤ got.length) then (s.reply p r .ok got).done else .next s
    | .empty | .answered _ _ | .replayed _ => .next s
  | .idle | .resetWait _ | .executing _ .fresh | .executing _ (.writing _ _ _) => .next s

/-! ### The memory arbiter (R52) -/

/-- Requester q has an access waiting: 0 to 3 an engine, 4 the interpreter. -/
def State.asking (s : State) (q : Fin 5) : Bool :=
  if h : q.1 < 4 then !(s.eng ⟨q.1, h⟩).asks.isEmpty
  else match s.interp with
    | .executing _ (.writing _ data done) => decide (done < data.length)
    | .executing _ (.reading _ count got) => decide (got.length < count)
    | .idle | .resetWait _ | .executing _ .fresh => false

/-- The requesters in rotation order from the one after q. -/
def rotationFrom (q : Fin 5) : List (Fin 5) := [q + 1, q + 2, q + 3, q + 4, q]

/-- The requester the arbiter grants next. -/
def State.nextRequester (s : State) : Option (Fin 5) := (rotationFrom s.rotation).find? s.asking

/-- A granted access: at an address that exists, f acts; else the fault noSuchAddress. -/
def access (addr : Nat) (f : State) : Host.Outcome State Fault Refusal :=
  if addr < Config.memSize then f.done else .fault .noSuchAddress

/-- The read of an engine is granted: the byte goes to the half of the outbound register that waits for it (R143, R146). -/
def State.grantRead (s : State) (x : Pass) (rest : List Ask) : Host.Outcome State Fault Refusal :=
  let e := { s.eng x.chan with asks := rest }
  match e.cur, e.nxt with
  | .waiting pos, _ => access (s.readAddr x pos)
      (s.setEng x.chan { e with cur := .held (s.mem.read (s.readAddr x pos)) })
  | _, .waiting pos => access (s.readAddr x pos)
      (s.setEng x.chan { e with nxt := .held (s.mem.read (s.readAddr x pos)) })
  | _, _ => (s.setEng x.chan e).done

/-- The store of an engine is granted: the byte is written, and if its eighth period has ended it is complete (R148). -/
def State.grantStore (s : State) (x : Pass) (b : Byte) (rest : List Ask) : Host.Outcome State Fault Refusal :=
  let addr := s.storeAddr x
  let t := (s.setMem (s.mem.write addr b)).setEng x.chan { s.eng x.chan with asks := rest }
  access addr (if (s.eng x.chan).owed then (t.countByte x).afterStore x else t)

/-- The access at the front of engine c's asks is granted. -/
def State.grantEngine (s : State) (c : Fin 4) : Host.Outcome State Fault Refusal :=
  match s.pass? c with
  | none => .next s
  | some x =>
    match (s.eng c).asks with
    | [] => .next s
    | .read :: rest => s.grantRead x rest
    | .store b :: rest => s.grantStore x b rest

/-- The interpreter's access is granted: one byte of a MEM_WRITE or MEM_READ, in rising address order (R58, R61). -/
def State.grantInterp (s : State) : Host.Outcome State Fault Refusal :=
  match s.interp with
  | .executing p (.writing addr data done) =>
    access (addr + done)
      ((s.setMem (s.mem.write (addr + done) (byteAt data done))).setInterp (.executing p (.writing addr data (done + 1))))
  | .executing p (.reading addr count got) =>
    access (addr + got.length)
      (s.setInterp (.executing p (.reading addr count (got ++ [s.mem.read (addr + got.length)]))))
  | .idle | .resetWait _ | .executing _ .fresh => .next s

/-- MEMORY_GRANT: one byte access to the next waiting requester, and the rotation position moves to it (R52). -/
def execMemoryGrant (s : State) : Host.Outcome State Fault Refusal :=
  match s.live, s.nextRequester with
  | true, some q =>
    let s := { s with rotation := q }
    if h : q.1 < 4 then s.grantEngine ⟨q.1, h⟩ else s.grantInterp
  | _, _ => .next s

end Sys2Proof.Machine
end

