-- ==== Sys2Proof/Machine/JobRequests.lean ====
section
/-! DEFINITION. The requests on jobs (06, 04, 07), on channels (07, 09), and on timers and lines (07). -/
namespace Sys2Proof.Machine

/-- A request whose first payload byte is a job number; above 63 is BAD_ARG (R36). -/
def State.serveJob (s : State) (code : Byte) (body : Fin 4 → Request → Fin 64 → State) :
    Host.Outcome State Fault Refusal :=
  s.serve code fun p r =>
    match finOf 64 (byteAt r.payload 0) with
    | none => s.reply p r .badArg []
    | some j => body p r j

/-- JOB_DEFINE: the range and rule checks, then the state; the record is replaced whole and ARMED (R85 to R89). -/
def execJobDefine (s : State) : Host.Outcome State Fault Refusal :=
  s.serveJob 0x20 fun p r j =>
    match parseJobDef r.payload with
    | none => s.reply p r .badArg []
    | some d =>
      match (s.job j).rt.state with
      | .free | .armed => (s.setJob j { defn := some d, rt := { Runtime.free with state := .armed } }).reply p r .ok []
      | .ready | .running | .suspended | .halted => s.reply p r .wrongState []

/-- JOB_GET (R90). -/
def execJobGet (s : State) : Host.Outcome State Fault Refusal :=
  s.serveJob 0x21 fun p r j =>
    match (s.job j).rt.state, (s.job j).defn with
    | .free, _ | _, none => s.reply p r .wrongState []
    | _, some d => s.reply p r .ok (natByte j.1 :: d.bytes)

/-- JOB_STATUS (R91). -/
def execJobStatus (s : State) : Host.Outcome State Fault Refusal :=
  s.serveJob 0x22 fun p r j => s.reply p r .ok (natByte j.1 :: (s.job j).rt.bytes)

/-- JOB_RELEASE (R109). -/
def execJobRelease (s : State) : Host.Outcome State Fault Refusal :=
  s.serveJob 0x23 fun p r j =>
    match (s.job j).rt.state with
    | .armed | .halted => (s.setJob j .free).reply p r .ok []
    | .free | .ready | .running | .suspended => s.reply p r .wrongState []

/-- JOB_START: a trigger with source host, and its outcome (R116). -/
def execJobStart (s : State) : Host.Outcome State Fault Refusal :=
  s.serveJob 0x24 fun p r j =>
    match (triggerOutcome (s.job j).rt).code with
    | none => s.reply p r .wrongState []
    | some o => (s.trigger j).reply p r .ok [o]

/-- The cancel of a RUNNING job: the flag is set, and the engine carries it out as its state allows (R105, R161). -/
def State.cancelRunning (s : State) (j : Fin 64) : State :=
  if (s.job j).rt.cancel then s
  else
    let s := s.setRt j { (s.job j).rt with cancel := true }
    match (s.job j).defn with
    | none => s
    | some d => s.onPass (channelOf d.target) (fun x => if x.job = j then s.carryCancel x else s)

/-- The cancel of a SUSPENDED job: the CANCELLED ending at once, its arbiter's slot empty, a fresh choice due (R107). -/
def State.cancelSuspended (s : State) (j : Fin 64) : State :=
  let s := s.cancelledEnding j
  match (s.job j).defn with
  | none => s
  | some d =>
    let c := channelOf d.target
    s.setArb c { s.arb c with slot := none, choiceDue := true }

/-- JOB_CANCEL; the answer reports the case by the state found (R103 to R107, log entry 15). -/
def execJobCancel (s : State) : Host.Outcome State Fault Refusal :=
  s.serveJob 0x25 fun p r j =>
    match (s.job j).rt.state with
    | .free | .halted => s.reply p r .wrongState []
    | .armed => s.reply p r .ok [JobState.armed.code, 0]
    | .ready => (s.setRt j { (s.job j).rt with state := .armed }).reply p r .ok [JobState.armed.code, 0]
    | .running => (s.cancelRunning j).reply p r .ok [JobState.running.code, 1]
    | .suspended => (s.cancelSuspended j).reply p r .ok [JobState.armed.code, 0]

/-- JOB_CLEAR (R108). -/
def execJobClear (s : State) : Host.Outcome State Fault Refusal :=
  s.serveJob 0x26 fun p r j =>
    match (s.job j).rt.state with
    | .halted =>
      let rt := { (s.job j).rt.takeSwap with state := .armed }
      (s.setRt j rt).reply p r .ok [rt.active.code]
    | .free | .armed | .ready | .running | .suspended => s.reply p r .wrongState []

/-- The record after a JOB_SWAP that passes its checks (R63). -/
def Runtime.askSwap (r : Runtime) : Runtime :=
  if r.swap then { r with swap := false }
  else if r.state.inUse then { r with swap := true }
  else { r with active := r.active.flip }

/-- The job has an alternate window to swap with (R62). -/
def JobDef.swaps (d : JobDef) : Bool :=
  match d.kind with
  | .send | .receive => d.winB.isSome
  | .exchange | .poll => false

/-- JOB_SWAP (R62, R63). -/
def execJobSwap (s : State) : Host.Outcome State Fault Refusal :=
  s.serveJob 0x27 fun p r j =>
    match (s.job j).rt.state, (s.job j).defn with
    | .free, _ | _, none => s.reply p r .wrongState []
    | _, some d =>
      if d.swaps then
        let rt := (s.job j).rt.askSwap
        (s.setRt j rt).reply p r .ok [rt.active.code, flagByte rt.swap]
      else s.reply p r .badArg []

/-! ### Channels -/

/-- The hold flag of channel c; a release makes a fresh choice due (R128). -/
def State.hold (s : State) (c : Fin 4) (b : Bool) : State :=
  let a := s.arb c
  s.setArb c { a with held := b, choiceDue := a.choiceDue || (a.held && !b) }

/-- CHANNEL_HOLD (R128). -/
def execChannelHold (s : State) : Host.Outcome State Fault Refusal :=
  s.serve 0x30 fun p r =>
    match finOf 4 (byteAt r.payload 0), flagOf (byteAt r.payload 1) with
    | some c, some b => (s.hold c b).reply p r .ok []
    | _, _ => s.reply p r .badArg []

/-- Steps 2 and 3 of the abort: a job is halted with ABORTED (R177). -/
def State.abortJob (s : State) (c : Fin 4) : Option (Fin 64) → State
  | none => s
  | some j => s.haltJob c j .aborted

/-- Step 4 of the abort: a READY job becomes ARMED (R177). -/
def State.disarm (s : State) (j : Fin 64) : State := s.setRt j { (s.job j).rt with state := .armed }

/-- Steps 1 to 4 of the abort on channel c, and the fresh choice of step 6 (R177). -/
def State.abortChannel (s : State) (c : Fin 4) : State :=
  let t := ((s.stopEngine c).abortJob c (s.runningJob c)).abortJob c (s.arb c).slot
  let t := (s.readyQueue c).foldl State.disarm t
  t.setArb c { t.arb c with slot := none, choiceDue := true }

/-- CHANNEL_ABORT: the answer's fields are as the request found them (R176, R177). -/
def execChannelAbort (s : State) : Host.Outcome State Fault Refusal :=
  s.serve 0x31 fun p r =>
    match finOf 4 (byteAt r.payload 0) with
    | none => s.reply p r .badArg []
    | some c => (s.abortChannel c).reply p r .ok
        [jobOrNone (s.runningJob c), jobOrNone (s.arb c).slot, natByte (s.readyQueue c).length]

/-! ### Timers and lines -/

/-- A timer after TIMER_SET: period 0 keeps the period; run loads the full period, stop discards the count (R119). -/
def Timer.set (t : Timer) (period : Half) (run : Bool) : Timer :=
  let p := if period = 0 then t.period else period
  { period := p, count := if run then some p.toNat else none }

/-- TIMER_SET (R119). -/
def execTimerSet (s : State) : Host.Outcome State Fault Refusal :=
  s.serve 0x38 fun p r =>
    match finOf 4 (byteAt r.payload 0), flagOf (byteAt r.payload 3) with
    | some n, some run =>
      let t := (s.timer n).set (halfAt r.payload 1) run
      (s.setTimer n t).reply p r .ok (halfBytes t.period ++ [flagByte run])
    | _, _ => s.reply p r .badArg []

/-- LINE_SET (R122). -/
def execLineSet (s : State) : Host.Outcome State Fault Refusal :=
  s.serve 0x39 fun p r =>
    match finOf 4 (byteAt r.payload 0), EdgeSel.ofByte (byteAt r.payload 1) with
    | some n, some e => (s.setLine n { s.line n with sel := e }).reply p r .ok [natByte n.1, e.code]
    | _, _ => s.reply p r .badArg []

end Sys2Proof.Machine
end

