-- ==== Sys2Proof/Machine/LinkEvents.lean ====
section
/-! DEFINITION. Bytes and edges at the link pins (02_the_control_link.md). -/
namespace Sys2Proof.Machine

/-- UART_CHARACTER_COMPLETE: a good byte goes to the frame receiver; a stop bit sampled low is a framing fault, a format
error inside a frame (R10, R18). Before start-up is complete the character is discarded (R6). -/
def execUartCharacterComplete (data : Byte) (stopHigh : Bool) (s : State) : Host.Outcome State Fault Refusal :=
  if s.timed && !s.straps.spi then (if stopHigh then s.rxByte data else s.breakFrame).done else .next s

/-- SILENCE_ABORT: a format error inside a frame, in UART mode (R18). -/
def execSilenceAbort (s : State) : Host.Outcome State Fault Refusal :=
  if s.timed && !s.straps.spi then s.breakFrame.done else .next s

/-- LSELN_FALL: a transaction begins with its first byte slot, in SPI mode (R11, R12). -/
def execLselnFall (s : State) : Host.Outcome State Fault Refusal :=
  if s.spi.lselnLow then .next s
  else
    let s := { s with spi := { s.spi with lselnLow := true } }
    if s.straps.spi && !s.rstnLow && decide (s.phase ≠ .held) then .next s.slotStart else .next s

/-- LSELN_RISE: the transaction ends, and a frame partly received is a format error (R19). A frame in progress outbound
keeps its next unsent byte (R12). -/
def execLselnRise (s : State) : Host.Outcome State Fault Refusal :=
  if !s.spi.lselnLow then .next s
  else
    let ends := s.live && s.straps.spi
    let s := { s with spi := { lselnLow := false, ignored := false, slot := none } }
    if ends then .next s.breakFrame else .next s

/-- The outbound half of an SPI byte: a byte of the frame counts as sent, a fill byte counts for nothing (R12). -/
def State.slotSent (s : State) (k : Slot) : State :=
  match k with
  | .fill => s
  | .frameByte => s.txByteSent

/-- SPI_BYTE_COMPLETE: the inbound byte goes to the frame receiver, the outbound byte of the slot is sent, and the next slot
begins (R11, R12). During start-up the byte is discarded (R6). -/
def execSpiByteComplete (data : Byte) (outFirst : Bool) (s : State) : Host.Outcome State Fault Refusal :=
  match s.spi.slot with
  | none => .next s
  | some k =>
    if !s.straps.spi || s.rstnLow || s.phase = .held then .next s
    else if s.phase = .startUp then .next s.slotStart
    else if outFirst then .next ((s.slotSent k).rxByte data).slotStart
    else .next ((s.rxByte data).slotSent k).slotStart

/-- UART_BYTE_SENT: a byte of the frame in progress has been sent; after the last one a frame boundary follows at once (R21,
R27). -/
def execUartByteSent (s : State) : Host.Outcome State Fault Refusal :=
  if s.timed && !s.straps.spi then s.txByteSent.done else .next s

end Sys2Proof.Machine
end

