-- ==== Sys2Proof/Machine/ResetClock.lean ====
section
/-! DEFINITION. RSTn, start-up and the core clock (01_pins_clock_and_start_up.md). -/
namespace Sys2Proof.Machine

/-- RSTN_LOW: the pins are forced at once; inside the part the reset takes effect while the clock runs (R2). -/
def execRstnLow (s : State) : Host.Outcome State Fault Refusal :=
  if s.rstnLow then .next s
  else if s.clock then .next { s.powerOn with rstnLow := true }
  else .next { s with rstnLow := true }

/-- RSTN_RISE: the straps are sampled, link byte transport starts, the start-up clear begins at address 0 (R3, R5). An SPI
transaction under way is ignored until LSELn goes high (R6). After a low time shorter than 10 µs with the clock running the
state is not specified (R2). -/
def execRstnRise (lowMicros : Nat) (mode br1 br0 : Bool) (s : State) : Host.Outcome State Fault Refusal :=
  if !s.rstnLow then .next s
  else if s.phase ≠ .held ∨ lowMicros < Config.minResetMicros then .fault .resetTooShort
  else .next { s with
    rstnLow := false, phase := .startUp, clearPos := 0
    straps := { spi := mode, br1 := br1, br0 := br0 }
    spi := { s.spi with ignored := mode && s.spi.lselnLow, slot := none } }

/-- The levels that stand on TRG0-3 and BUSY0-3 at the end of start-up are the first seen (R9, R144; log entry 11). -/
def State.firstLevels (s : State) (trg busy : BitVec 4) : State :=
  let line (n : Fin 4) : Line := { s.line n with seen := some (trg.getLsbD n.1) }
  let level (n : Fin 4) : Option Bool := some (busy.getLsbD n.1)
  { s with lines := #v[line 0, line 1, line 2, line 3], busySeen := #v[level 0, level 1, level 2, level 3] }

/-- START_UP_CLEAR_COMPLETE: every byte of buffer memory is 00h, normal operation begins with the receiver in HUNT, and one
STARTED record with cause POWER is queued (R5, R7). -/
def execStartUpClearComplete (trg busy : BitVec 4) (s : State) : Host.Outcome State Fault Refusal :=
  if s.phase = .startUp && !s.rstnLow && s.clock then
    let s := (s.firstLevels trg busy).setRx .hunting
    State.done (State.hand { s with mem := [], phase := .running, clearPos := 0 } (.started .power))
  else .next s

/-- CORE_CLOCK_STOPS: every interval in progress stops at its present point (R1). -/
def execCoreClockStops (s : State) : Host.Outcome State Fault Refusal := .next { s with clock := false }

/-- CORE_CLOCK_RETURNS: the intervals go on from the same point, and an RSTn low held meanwhile takes effect inside the part
from this moment (R1, R2). -/
def execCoreClockReturns (s : State) : Host.Outcome State Fault Refusal :=
  if s.clock then .next s
  else if s.rstnLow then .next { s.powerOn with clock := true }
  else State.done { s with clock := true }

end Sys2Proof.Machine
end

