-- ==== Sys2Proof/Machine/Dispatch.lean ====
section
/-! DEFINITION. The meaning of every command, one arm per row of the table. -/
namespace Sys2Proof.Machine

def exec (i : Instr) (s : State) : Host.Outcome State Fault Refusal :=
  match i with
  | .rstnLow => Sys2Proof.Machine.execRstnLow s
  | .rstnRise lowMicros mode br1 br0 => Sys2Proof.Machine.execRstnRise lowMicros mode br1 br0 s
  | .startUpClearComplete trg busy => Sys2Proof.Machine.execStartUpClearComplete trg busy s
  | .uartCharacterComplete data stopHigh => Sys2Proof.Machine.execUartCharacterComplete data stopHigh s
  | .silenceAbort => Sys2Proof.Machine.execSilenceAbort s
  | .lselnFall => Sys2Proof.Machine.execLselnFall s
  | .lselnRise => Sys2Proof.Machine.execLselnRise s
  | .spiByteComplete data outFirst => Sys2Proof.Machine.execSpiByteComplete data outFirst s
  | .uartByteSent => Sys2Proof.Machine.execUartByteSent s
  | .unknownRequestType => Sys2Proof.Machine.execUnknownRequestType s
  | .identify => Sys2Proof.Machine.execIdentify s
  | .status => Sys2Proof.Machine.execStatus s
  | .reset => Sys2Proof.Machine.execReset s
  | .noticeControl => Sys2Proof.Machine.execNoticeControl s
  | .targetSet => Sys2Proof.Machine.execTargetSet s
  | .targetGet => Sys2Proof.Machine.execTargetGet s
  | .memWrite => Sys2Proof.Machine.execMemWrite s
  | .memWriteDone => Sys2Proof.Machine.execMemWriteDone s
  | .memRead => Sys2Proof.Machine.execMemRead s
  | .memReadDone => Sys2Proof.Machine.execMemReadDone s
  | .memoryGrant => Sys2Proof.Machine.execMemoryGrant s
  | .jobDefine => Sys2Proof.Machine.execJobDefine s
  | .jobGet => Sys2Proof.Machine.execJobGet s
  | .jobStatus => Sys2Proof.Machine.execJobStatus s
  | .jobRelease => Sys2Proof.Machine.execJobRelease s
  | .jobStart => Sys2Proof.Machine.execJobStart s
  | .jobCancel => Sys2Proof.Machine.execJobCancel s
  | .jobClear => Sys2Proof.Machine.execJobClear s
  | .jobSwap => Sys2Proof.Machine.execJobSwap s
  | .channelHold => Sys2Proof.Machine.execChannelHold s
  | .channelAbort => Sys2Proof.Machine.execChannelAbort s
  | .timerSet => Sys2Proof.Machine.execTimerSet s
  | .lineSet => Sys2Proof.Machine.execLineSet s
  | .timerExpiry n => Sys2Proof.Machine.execTimerExpiry n s
  | .lineEdge n level => Sys2Proof.Machine.execLineEdge n level s
  | .freshChoice c => Sys2Proof.Machine.execFreshChoice c s
  | .selectAssertion c => Sys2Proof.Machine.execSelectAssertion c s
  | .leadEnd c => Sys2Proof.Machine.execLeadEnd c s
  | .busyReady c => Sys2Proof.Machine.execBusyReady c s
  | .busyTimeout c => Sys2Proof.Machine.execBusyTimeout c s
  | .byteEnd c wire => Sys2Proof.Machine.execByteEnd c wire s
  | .gapEnd c => Sys2Proof.Machine.execGapEnd c s
  | .unitEndComplete c => Sys2Proof.Machine.execUnitEndComplete c s
  | .lagEnd c => Sys2Proof.Machine.execLagEnd c s
  | .pollIntervalEnd c => Sys2Proof.Machine.execPollIntervalEnd c s
  | .coreClockStops => Sys2Proof.Machine.execCoreClockStops s
  | .coreClockReturns => Sys2Proof.Machine.execCoreClockReturns s
  | .busyLevelSeen c high => Sys2Proof.Machine.execBusyLevelSeen c high s
  | .lastBitArrived c wire => Sys2Proof.Machine.execLastBitArrived c wire s

end Sys2Proof.Machine
end

