-- ==== Sys2Proof/Machine/Tick.lean ====
section
/-! DEFINITION. One core clock period with no command waiting (log entry 7): the start-up clear writes its next byte, and the
running intervals count down. An interval that runs out puts the command of its end into the queue. The ends that bring
something from outside (a byte's bits, the levels at the end of start-up, a silence on the link) are left to the sender. -/
namespace Sys2Proof.Machine

/-- The interval of the state counts timer ticks: a busy timeout or a poll interval (R74, R160). -/
def EngState.countsTicks : EngState → Bool
  | .busyWait | .pollWait => true
  | .idle | .lead | .shift | .gap | .unitEnd | .lag => false

/-- The interval count of the engine goes down at this core clock; `tick` says that a timer tick ends with it. -/
def Engine.counts (e : Engine) (tick : Bool) : Bool := decide (0 < e.interval) && (tick || !e.state.countsTicks)

/-- The command of the end of the engine's interval. -/
def Engine.endCommand (e : Engine) (c : Fin 4) : Option Instr :=
  match e.state with
  | .lead => some (if e.asserted then .leadEnd c else .selectAssertion c)
  | .busyWait => some (.busyTimeout c)
  | .gap => some (.gapEnd c)
  | .unitEnd => some (.unitEndComplete c)
  | .pollWait => some (.pollIntervalEnd c)
  | .lag => some (.lagEnd c)
  | .idle | .shift => none

/-- The engine after this core clock. -/
def Engine.afterClock (e : Engine) (tick : Bool) : Engine :=
  if e.counts tick then { e with interval := e.interval - 1 } else e

/-- The end of the engine's interval, if it falls at this core clock. -/
def Engine.runsOut (e : Engine) (c : Fin 4) (tick : Bool) : Option Instr :=
  if e.counts tick && decide (e.interval = 1) then e.endCommand c else none

/-- The timer after this core clock: its count goes down at each timer tick (R118). -/
def Timer.afterClock (t : Timer) (tick : Bool) : Timer :=
  if tick then { t with count := t.count.map (· - 1) } else t

/-- The expiry of timer n, if it falls at this core clock. -/
def Timer.runsOut (t : Timer) (n : Fin 4) (tick : Bool) : Option Instr :=
  if tick && decide (t.count = some 1) then some (.timerExpiry n) else none

/-- The commands of the intervals that run out at this core clock: timers, engines, the outbound UART character. -/
def State.runOuts (s : State) (tick : Bool) : List Instr :=
  allChannels.filterMap (fun n => (s.timer n).runsOut n tick)
    ++ allChannels.filterMap (fun c => (s.eng c).runsOut c tick)
    ++ (if s.link.txClocks = 1 then [.uartByteSent] else [])

/-- The start-up clear writes 00h at its next address; the write to address 8191 is a command (R5, log entry 12). -/
def State.clearNext (s : State) : State :=
  if s.clearPos + 1 < Config.memSize then { s with mem := s.mem.write s.clearPos 0, clearPos := s.clearPos + 1 } else s

/-- One core clock period in normal operation. -/
def State.countDown (s : State) : State :=
  let tick := decide (Config.clocksPerTick ≤ s.usPhase + 1)
  { s with
    usPhase := if tick then 0 else s.usPhase + 1
    timers := s.timers.map (·.afterClock tick)
    engs := s.engs.map (·.afterClock tick)
    link := { s.link with txClocks := s.link.txClocks - 1 }
    pending := s.pending ++ s.runOuts tick }

/-- One core clock period; nothing happens while RSTn is low or the clock is stopped (R1, R2). -/
def State.tick (s : State) : State :=
  if s.rstnLow || !s.clock then s
  else match s.phase with
    | .held => s
    | .startUp => s.clearNext
    | .running => s.countDown

end Sys2Proof.Machine
end

