-- ==== Sys2Proof/Safety.lean ====
section
/-! DEFINITION. What the statements about runs are said with: the invariants of the part, and the hand-over of an answer as
one change of State (R37). -/
namespace Sys2Proof.Machine

/-! ### Invariants -/

/-- At most 32 records, at most 28 of them JOB_DONE or OVERRUN, at most one of each of these two for any one job (R185). -/
abbrev NoticeQueue.limits (q : NoticeQueue) : Prop :=
  q.records.length ≤ Config.noticeCap ∧ mergingCount q.records ≤ Config.mergeCap ∧
    q.records.Pairwise (fun a b => a.takes b = false)

/-- The write claim overlaps no window in use (R59). -/
abbrev State.claimClear (s : State) : Prop :=
  ∀ w, s.claim = some w → ∀ v ∈ s.windowsInUse, v.overlaps w = false

/-- The write claim is held exactly while the interpreter writes a MEM_WRITE, and is its range (R42, R57, R58). -/
def State.claimMatches (s : State) : Prop :=
  match s.interp with
  | .executing _ (.writing addr data done) =>
    s.claim = some { start := addr, len := data.length } ∧ done ≤ data.length ∧ inMemory addr data.length = true
  | .executing _ (.reading addr count got) => s.claim = none ∧ got.length ≤ count ∧ inMemory addr count = true
  | .executing _ .fresh | .idle | .resetWait _ => s.claim = none

/-- A definition keeps the rules of JOB_DEFINE on windows and POLL fields (R86, R87). -/
def JobDef.lawful (d : JobDef) : Bool :=
  d.winA.inBounds && d.winB.all (·.inBounds) && windowRules d.kind d.winA d.winB
    && (if d.kind = .poll then pollRules d.pollMask d.pollMatch d.retryLimit
        else d.pollMask = 0 && d.pollMatch = 0 && d.retryLimit = 0 && d.interval = 0)

/-- Every definition held keeps the rules of JOB_DEFINE. -/
abbrev State.definitionsLawful (s : State) : Prop := ∀ j d, (s.job j).defn = some d → d.lawful = true

/-- Every profile is one that TARGET_SET can write: its fields are in range (R67, R77). -/
def Profile.lawful (f : Profile) : Bool :=
  decide (1 ≤ f.unit) && decide (f.unit ≤ 16) && decide (f.timeout ≠ 0) && (!f.slipCheck || decide (f.busy ≠ .off))

/-- Every profile of the target table is lawful. -/
abbrev State.targetsLawful (s : State) : Prop := ∀ t, (s.target t).lawful = true

/-- A running timer's count is at most its period, and no period is 0 (R118). -/
abbrev State.timersLawful (s : State) : Prop :=
  ∀ n, (s.timer n).period ≠ 0 ∧ ∀ k, (s.timer n).count = some k → k ≤ (s.timer n).period.toNat

/-- The RUNNING and SUSPENDED jobs are those of the engines and of the suspended-job slots (R83, R135): an engine has a job
exactly while it is not IDLE; that job is RUNNING and on its channel; a slot's job is SUSPENDED, of class NORMAL and on its
channel; every RUNNING or SUSPENDED job is found there; a FREE job, and no other, has no definition; while a slot is full the
engine's job is URGENT, and a job whose suspension is under way is NORMAL. -/
structure State.Coherent (s : State) : Prop where
  idle : ∀ c, (s.eng c).state = .idle ↔ (s.eng c).job = none
  engineJob : ∀ c j, (s.eng c).job = some j → s.onChannel c j = true ∧ (s.job j).rt.state = .running
  slotJob : ∀ c j, (s.arb c).slot = some j →
    s.onChannel c j = true ∧ (s.job j).rt.state = .suspended ∧ (s.job j).defn.map (·.cls) = some .normal
  running : ∀ j, (s.job j).rt.state = .running → ∃ c, (s.eng c).job = some j
  suspended : ∀ j, (s.job j).rt.state = .suspended → ∃ c, (s.arb c).slot = some j
  free : ∀ j, (s.job j).rt.state = .free ↔ (s.job j).defn = none
  urgent : ∀ c j k, (s.eng c).job = some j → (s.arb c).slot = some k → (s.job j).defn.map (·.cls) = some .urgent
  suspending : ∀ c j, (s.eng c).job = some j → (s.eng c).lag = some .suspension →
    (s.job j).defn.map (·.cls) = some .normal

/-- The flags of a job stand only where they can: a pending trigger in RUNNING and SUSPENDED (R92, R95), a cancel requested in
RUNNING (R106), a pending swap in RUNNING, SUSPENDED and HALTED (R65, R92). -/
abbrev Runtime.lawful (r : Runtime) : Prop :=
  (r.pending = true → r.state.inUse = true) ∧ (r.cancel = true → r.state = .running) ∧
    (r.swap = true → r.state.inUse = true ∨ r.state = .halted)

/-- Every job's flags are lawful. -/
abbrev State.runtimesLawful (s : State) : Prop := ∀ j, (s.job j).rt.lawful

/-- What the progress of a job never exceeds: the length of window A, or the retry limit of a POLL job (R93). -/
def JobDef.bound (d : JobDef) : Nat := if d.kind = .poll then d.retryLimit.toNat else d.winA.len

/-- Bytes of a pass not of kind POLL whose eighth period has ended, the one whose store still waits included (R148). -/
def Engine.bytesShifted (e : Engine) (r : Runtime) : Nat := r.progress + if e.owed then 1 else 0

/-- The reads that an outbound byte waits for. -/
def OutByte.reads : OutByte → Nat
  | .waiting _ => 1
  | .empty | .held _ => 0

/-- What a LAG reason says of the pass it was recorded in (R97, R151, R154, R158). -/
def LagReason.lawful (e : Engine) (d : JobDef) (r : Runtime) : LagReason → Prop
  | .passEnd o => d.kind ≠ .poll ∧ o = .complete ∧ r.progress = d.winA.len
  | .suspension => d.kind ≠ .poll ∧ r.progress < d.winA.len
  | .cancel => r.cancel = true
  | .attemptEnd => d.kind = .poll ∧ e.inByte ≠ none
  | .fault _ => True

/-- An engine in a pass of a job with definition d and runtime part r. A POLL job has attempts left (R93, R159), another job has
not shifted more than its bytes, and has one left in LEAD, SHIFT and GAP (R149, R150, R152). A read waits only for a byte of the
window, and one is asked for each byte that waits (R143, R146). A store waits for one byte at most, of a kind that stores, in
SHIFT, GAP or UNIT_END (R148); the engine owes a byte, and stays in a state for it, only while its store waits. -/
structure Engine.Lawful (e : Engine) (d : JobDef) (r : Runtime) : Prop where
  attempts : d.kind = .poll → r.progress < d.retryLimit.toNat
  commands : d.kind = .poll → e.attemptPos ≤ d.winA.len
  bytes : d.kind ≠ .poll → e.bytesShifted r ≤ d.winA.len
  byteLeft : d.kind ≠ .poll → (e.state = .lead ∨ e.state = .shift ∨ e.state = .gap) → e.ended = false →
    e.bytesShifted r < d.winA.len
  reply : e.state = .shift → (e.replying = true ↔ d.kind = .poll ∧ e.attemptPos = d.winA.len)
  pollWait : e.state = .pollWait → d.kind = .poll
  read : ∀ k, e.cur = .waiting k ∨ e.nxt = .waiting k → d.kind ≠ .receive ∧ k < d.winA.len
  readAsked : e.asks.count .read = e.cur.reads + e.nxt.reads
  readInShift : ∀ k, e.cur = .waiting k → e.state = .shift ∧ e.ended = false
  store : e.storeWaiting ≠ none → d.kind.stores = true ∧ (e.state = .shift ∨ e.state = .gap ∨ e.state = .unitEnd) ∧
    (e.owed = true ∨ (e.state = .shift ∧ e.ended = false ∧ e.inByte ≠ none))
  oneStore : e.asks.countP (fun a => decide (a ≠ .read)) ≤ 1
  owed : e.owed = true → e.storeWaiting ≠ none
  ended : e.ended = true → e.owed = true
  endedGap : e.ended = true → e.state = .gap → r.cancel = true
  inLag : e.state = .lag ↔ e.lag ≠ none
  reason : ∀ l, e.lag = some l → l.lawful e d r

/-- The progress of every job keeps R93, a SUSPENDED job has something left to do (R132, R152, R160), and every engine in a pass
is lawful for its job. -/
structure State.PassesLawful (s : State) : Prop where
  progress : ∀ j d, (s.job j).defn = some d → (s.job j).rt.progress ≤ d.bound
  suspended : ∀ j d, (s.job j).defn = some d → (s.job j).rt.state = .suspended → (s.job j).rt.progress < d.bound
  engine : ∀ c j d, (s.eng c).job = some j → (s.job j).defn = some d → (s.eng c).Lawful d (s.job j).rt

/-- A place that holds an answer (R21). -/
def Place.hasAnswer : Place → Bool
  | .answered _ _ | .replayed _ => true
  | .empty | .request _ => false

/-- A place that holds a request that has not been answered (R21). -/
def Place.hasRequest : Place → Bool
  | .request _ => true
  | .empty | .answered _ _ | .replayed _ => false

/-- The request places, the interpreter and the answer queue agree (R21, R26, R32): a place holds an unanswered request exactly
while it waits or is executed, and then once; the interpreter is IDLE only with nothing waiting; an answer is in the queue
exactly while its place holds it, and once; the frame in progress is that of the oldest answer or of a notice; a request that
waits for its RESET to take effect has been answered. -/
structure State.LinkCoherent (s : State) : Prop where
  request : ∀ p, (s.place p).hasRequest = true ↔ (p ∈ s.link.waiting ∨ ∃ w, s.interp = .executing p w)
  once : ∀ p w, s.interp = .executing p w → p ∉ s.link.waiting
  waiting : s.link.waiting.Nodup
  idle : s.interp = .idle → s.link.waiting = []
  answer : ∀ p, .place p ∈ s.link.answers ↔ (s.place p).hasAnswer = true
  refusal : .refusal ∈ s.link.answers ↔ s.link.refusal.isSome = true
  answers : s.link.answers.Nodup
  sending : ∀ r, s.link.sending = some r → s.link.answers.head? = some r
  resetWait : ∀ p, s.interp = .resetWait p → (s.place p).hasAnswer = true

/-! ### A request being executed, and its answer -/

/-- The interpreter is executing request r, of code `code`, in place p, and has not carried it out yet (R32, R33). -/
abbrev State.carries (s : State) (code : Byte) (p : Fin 4) (r : Request) : Prop :=
  s.live = true ∧ s.interp = .executing p .fresh ∧ s.place p = .request r ∧ r.typ = code

/-- The link controller after answer a to request r has been put into place p: it joins the answer queue, and a copy is kept
in the replay memory if r is still the last accepted request (R37, R23). The counters, the refusal place, the receiver and
the frame in progress stay as they were. -/
def Link.answered (l : Link) (p : Fin 4) (r : Request) (a : Answer) : Link :=
  { l with
    places := l.places.set p.1 (.answered r a) p.2
    answers := l.answers ++ [.place p]
    replay := l.replay.map (fun e => if e.place = p ∧ e.answer = none then { e with answer := some a } else e) }

/-- The answer with result `res` and contents `data` to request r (R37). -/
def Request.answer (r : Request) (res : Result) (data : List Byte) : Answer :=
  { tag := r.tag, typ := answerType r.typ, payload := res.code :: data }

/-- The part after request r in place p has been answered: the answer is placed, and the interpreter has taken the earliest
waiting request, or is IDLE (R32, R37). Nothing else changes. -/
def State.answered (s : State) (p : Fin 4) (r : Request) (res : Result) (data : List Byte) : State :=
  { s with
    link := { s.link.answered p r (r.answer res data) with waiting := s.link.waiting.tail }
    interp := match s.link.waiting with
      | [] => .idle
      | q :: _ => .executing q .fresh }

/-- The request code of a request command (R34, R202). -/
def requestCode : Instr → Option Byte
  | .identify => some 0x01
  | .status => some 0x02
  | .reset => some 0x03
  | .noticeControl => some 0x04
  | .targetSet => some 0x10
  | .targetGet => some 0x11
  | .memWrite => some 0x18
  | .memRead => some 0x19
  | .jobDefine => some 0x20
  | .jobGet => some 0x21
  | .jobStatus => some 0x22
  | .jobRelease => some 0x23
  | .jobStart => some 0x24
  | .jobCancel => some 0x25
  | .jobClear => some 0x26
  | .jobSwap => some 0x27
  | .channelHold => some 0x30
  | .channelAbort => some 0x31
  | .timerSet => some 0x38
  | .lineSet => some 0x39
  | _ => none

/-- How many things of its kind there are, for a request that names one by its first payload byte (R36). -/
def numberLimit : Instr → Option Nat
  | .targetSet | .targetGet => some 16
  | .jobDefine | .jobGet | .jobStatus | .jobRelease | .jobStart | .jobCancel | .jobClear | .jobSwap => some 64
  | .channelHold | .channelAbort | .timerSet | .lineSet => some 4
  | _ => none

/-- The commands that may write buffer memory: the grants, the end of the start-up clear, and those at which an engine may stop
at once with a received byte to store (R5, R50, R168). -/
def mayWriteMemory : Instr → Bool
  | .memoryGrant | .startUpClearComplete _ _ | .channelAbort | .rstnLow | .coreClockReturns | .uartByteSent
  | .spiByteComplete _ _ => true
  | _ => false

/-- The definition bytes (offsets 1 to 23) of a JOB_DEFINE payload as the record keeps them: 0 for the start and length of an
absent window B, and for the POLL fields of a job not of kind POLL (R86, R87, R201). -/
def keptDefinition (p : List Byte) : List Byte :=
  (List.range 23).map fun i =>
    if (byteAt p 8 = 0 ∧ 8 ≤ i ∧ i ≤ 11) ∨ (byteAt p 2 ≠ 3 ∧ 18 ≤ i) then 0 else byteAt p (i + 1)

end Sys2Proof.Machine
end

