-- ==== Sys2Proof/Certificates/Slice0/Obligations.lean ====
section
/-! DEFINITION. The statements about the part, from the numbered rules of the manual. `carries`, `answered`, the invariants and
the tables of request codes are in Sys2Proof/Safety.lean. Most name the whole next state of a command, so that what is not
written there has not changed; `uartBoundary` is the frame boundary an idle UART transmitter stands at after every event, once at
its end whatever records it has handed (the model's choice, log entry 32). -/

section
open Host Sys2Proof Sys2Proof.Machine

/-! ### Steps -/

/-- A step carries out the command at the front of the queue on the state with the queue's rest. -/
def Obligations.StepRunsFrontCommand : Prop :=
  ∀ (i : Instr) (s : State), step { s with pending := i :: s.pending } = exec i s

/-- On an empty queue a step is one core clock period (the model's choice, log entries 7, 12 and 29; the time bases are those of
R1): nothing while RSTn is low, the clock stopped or the reset not yet released; the next byte of the start-up clear; else timers
count at each timer tick, engine intervals at each clock or tick, and the commands of the intervals that run out join the queue. -/
def Obligations.EmptyQueueIsOneClock : Prop :=
  ∀ s : State, s.pending = [] → ∃ t, step s = .next t ∧
    (s.rstnLow = true ∨ s.clock = false ∨ s.phase = .held → t = s) ∧
    (s.rstnLow = false → s.clock = true → s.phase = .startUp →
      t = if s.clearPos + 1 < 8192 then { s with mem := s.mem.write s.clearPos 0, clearPos := s.clearPos + 1 } else s) ∧
    (s.rstnLow = false → s.clock = true → s.phase = .running →
      t.usPhase = (if 32 ≤ s.usPhase + 1 then 0 else s.usPhase + 1) ∧
      (∀ n, t.timer n = if 32 ≤ s.usPhase + 1 then { s.timer n with count := (s.timer n).count.map (· - 1) } else s.timer n) ∧
      (∀ c, t.eng c = { s.eng c with
        interval := if (s.eng c).state.countsTicks = true ∧ s.usPhase + 1 < 32 then (s.eng c).interval
          else (s.eng c).interval - 1 }) ∧
      t.link = { s.link with txClocks := s.link.txClocks - 1 } ∧
      (∀ i, i ∈ t.pending ↔
        (∃ n, i = .timerExpiry n ∧ 32 ≤ s.usPhase + 1 ∧ (s.timer n).count = some 1) ∨
        (∃ c, (s.eng c).endCommand c = some i ∧ (s.eng c).interval = 1 ∧
          (32 ≤ s.usPhase + 1 ∨ (s.eng c).state.countsTicks = false)) ∨
        (i = .uartByteSent ∧ s.link.txClocks = 1)) ∧
      t = { s with usPhase := t.usPhase, timers := t.timers, engs := t.engs, link := t.link, pending := t.pending })

/-- Every command but RSTN_RISE and MEMORY_GRANT answers a next state in every state. MEMORY_GRANT can only stop for an address
above 8191, and that it stops there is the model's choice (log entry 24; RSTN_RISE's stop: log entry 8): it never stops for an
access of the interpreter whose range has been checked (R56, R61), nor, while the invariants of O7, O8 and O9 hold, for any access
of the interpreter or of an engine, whose windows JOB_DEFINE has checked (R50, R86). -/
def Obligations.OnlyTwoCommandsStop : Prop :=
  (∀ (i : Instr) (s : State), (∀ n m a b, i ≠ .rstnRise n m a b) → i ≠ .memoryGrant → ∃ t, exec i s = .next t) ∧
  (∀ s : State, (∃ t, exec .memoryGrant s = .next t) ∨ exec .memoryGrant s = .fault .noSuchAddress) ∧
  (∀ s : State, s.claimMatches → s.nextRequester = some 4 → ∃ t, exec .memoryGrant s = .next t) ∧
  (∀ s : State, s.claimMatches → s.definitionsLawful → s.PassesLawful → ∃ t, exec .memoryGrant s = .next t)

/-- A command whose event cannot occur in the state it finds changes nothing (the model's choice, log entries 5, 9 and 28):
RSTN_RISE with RSTn high; START_UP_CLEAR_COMPLETE outside start-up; events of the clock, of UART characters and of inputs outside
normal operation with the clock running; SPI bytes outside a slot; a timer's expiry before its count has reached 0; an engine event
with the engine in another state, a select assertion once asserted and a lead's end before it, and the end of a byte whose own read
or an earlier store still waits (log entry 23); a request command without a request of its own code that the interpreter holds,
and the end of a MEM_WRITE or MEM_READ with work left. For RSTN_LOW, the edges of LSELn and CORE_CLOCK_RETURNS, O15, O27 and O18
say it. -/
def Obligations.EventsThatCannotOccur : Prop :=
  (∀ (s : State) (n : Nat) (m a b : Bool), s.rstnLow = false → exec (.rstnRise n m a b) s = .next s) ∧
  (∀ (s : State) (trg busy : BitVec 4), s.phase ≠ .startUp ∨ s.rstnLow = true ∨ s.clock = false →
    exec (.startUpClearComplete trg busy) s = .next s) ∧
  (∀ (s : State) (c : Fin 4) (b : Byte) (l : Bool),
    (s.timed = false ∨ s.straps.spi = true →
      exec (.uartCharacterComplete b l) s = .next s ∧ exec .silenceAbort s = .next s ∧ exec .uartByteSent s = .next s) ∧
    (s.spi.slot = none ∨ s.straps.spi = false ∨ s.rstnLow = true ∨ s.phase = .held →
      exec (.spiByteComplete b l) s = .next s) ∧
    (s.timed = false ∨ (s.timer c).count ≠ some 0 → exec (.timerExpiry c) s = .next s) ∧
    (s.timed = false → exec (.lineEdge c l) s = .next s ∧ exec (.busyLevelSeen c l) s = .next s) ∧
    (s.live = false ∨ (s.arb c).choiceDue = false → exec (.freshChoice c) s = .next s) ∧
    (s.live = false ∨ s.nextRequester = none → exec .memoryGrant s = .next s) ∧
    (s.timed = false ∨ (s.eng c).state ≠ .lead ∨ (s.eng c).asserted = true → exec (.selectAssertion c) s = .next s) ∧
    (s.timed = false ∨ (s.eng c).state ≠ .lead ∨ (s.eng c).asserted = false → exec (.leadEnd c) s = .next s) ∧
    (s.timed = false ∨ (s.eng c).state ≠ .busyWait →
      exec (.busyReady c) s = .next s ∧ exec (.busyTimeout c) s = .next s) ∧
    (s.timed = false ∨ (s.eng c).state ≠ .shift ∨ (s.eng c).ended = true ∨ (∃ k, (s.eng c).cur = .waiting k) ∨
        ((s.eng c).inByte = none ∧ (s.eng c).storeWaiting ≠ none) →
      exec (.byteEnd c b) s = .next s ∧ exec (.lastBitArrived c b) s = .next s) ∧
    ((s.eng c).inByte ≠ none → exec (.lastBitArrived c b) s = .next s) ∧
    (s.timed = false ∨ (s.eng c).state ≠ .gap ∨ (s.eng c).ended = true → exec (.gapEnd c) s = .next s) ∧
    (s.timed = false ∨ (s.eng c).state ≠ .unitEnd ∨ (s.eng c).ended = true → exec (.unitEndComplete c) s = .next s) ∧
    (s.timed = false ∨ (s.eng c).state ≠ .lag → exec (.lagEnd c) s = .next s) ∧
    (s.timed = false ∨ (s.eng c).state ≠ .pollWait → exec (.pollIntervalEnd c) s = .next s)) ∧
  (∀ (s : State) (i : Instr) (code : Byte), requestCode i = some code →
    (∀ p r, s.current = some (p, r) → r.typ ≠ code) → exec i s = .next s) ∧
  (∀ s : State, (∀ p r, s.current = some (p, r) → r.typ ∈ [0x01, 0x02, 0x03, 0x04, 0x10, 0x11, 0x18, 0x19, 0x20, 0x21, 0x22,
      0x23, 0x24, 0x25, 0x26, 0x27, 0x30, 0x31, 0x38, 0x39]) → exec .unknownRequestType s = .next s) ∧
  (∀ s : State, s.live = false ∨ (∀ p a data n, s.interp = .executing p (.writing a data n) → n < data.length) →
    exec .memWriteDone s = .next s) ∧
  (∀ s : State, s.live = false ∨ (∀ p a n got, s.interp = .executing p (.reading a n got) → got.length < n) →
    exec .memReadDone s = .next s)

/-! ### Invariants that every step keeps -/

/-- Buffer memory keeps its canonical form. -/
def Obligations.StepKeepsMemoryCanonical : Prop :=
  ∀ s t : State, Memory.wf s.mem → step s = .next t → Memory.wf t.mem

/-- The limits of the notice queue hold (R185). -/
def Obligations.StepKeepsNoticeLimits : Prop :=
  ∀ s t : State, s.notices.limits → step s = .next t → t.notices.limits

/-- The write claim never overlaps a window in use (R59), and is held exactly while a MEM_WRITE is being written, over its
range (R57, R58). -/
def Obligations.StepKeepsWriteClaim : Prop :=
  (∀ s t : State, s.claimClear → step s = .next t → t.claimClear) ∧
  (∀ s t : State, s.claimMatches → step s = .next t → t.claimMatches)

/-- Every definition held, every profile and every timer keep the rules of the requests that write them (R67, R86, R87, R118),
and the flags of a job stand only in the states that have them: a pending trigger in RUNNING and SUSPENDED (R92, R95), a cancel
requested in RUNNING (R106), a pending swap in RUNNING, SUSPENDED and HALTED (R65, R92). -/
def Obligations.StepKeepsRecordsLawful : Prop :=
  (∀ s t : State, s.definitionsLawful → step s = .next t → t.definitionsLawful) ∧
  (∀ s t : State, s.targetsLawful → step s = .next t → t.targetsLawful) ∧
  (∀ s t : State, s.timersLawful → step s = .next t → t.timersLawful) ∧
  (∀ s t : State, s.runtimesLawful → step s = .next t → t.runtimesLawful)

/-- Jobs, engines and suspended-job slots agree: on each channel at most one job is RUNNING, the engine's, and at most one is
SUSPENDED, the slot's, of class NORMAL; beside a full slot a RUNNING job is URGENT (R83, R135, R139). While they do, and the
definitions are lawful, every pass stays lawful: the progress of a job never exceeds window A's length or the retry limit (R93), a
SUSPENDED job has something left to do (R132, R152, R160), a read waits only for a byte of the window and a store only for a byte
with room (R143, R146, R148), and a LAG reason fits the pass it was recorded in (R97, R151, R154, R158). -/
def Obligations.StepKeepsChannelsCoherent : Prop :=
  (∀ s t : State, s.Coherent → step s = .next t → t.Coherent) ∧
  (∀ s t : State, s.definitionsLawful → s.Coherent → s.PassesLawful → step s = .next t → t.PassesLawful)

/-- Request places, interpreter and answer queue agree: each accepted request waits or is executed once, each answer is queued
once, the frame in progress is the oldest answer's or a notice's (R21, R26, R32). -/
def Obligations.StepKeepsLinkCoherent : Prop :=
  ∀ s t : State, s.LinkCoherent → step s = .next t → t.LinkCoherent

/-- All these invariants hold in the state after reset. -/
def Obligations.ResetHasInvariants : Prop :=
  Memory.wf State.reset.mem ∧ State.reset.notices.limits ∧ State.reset.claimClear ∧ State.reset.claimMatches ∧
    State.reset.definitionsLawful ∧ State.reset.targetsLawful ∧ State.reset.timersLawful ∧ State.reset.runtimesLawful ∧
    State.reset.Coherent ∧ State.reset.PassesLawful ∧ State.reset.LinkCoherent

/-- While a job is RUNNING or SUSPENDED its target's profile and its active window do not change, and from READY on its
definition does not either, unless it becomes FREE (R65, R78, R84). -/
def Obligations.PassDataStaysFixed : Prop :=
  ∀ (i : Instr) (s t : State), exec i s = .next t →
    (∀ n, s.targetInUse n = true → t.targetInUse n = true → t.target n = s.target n) ∧
    (∀ j, (s.job j).rt.state.inUse = true → (t.job j).rt.state.inUse = true →
      (t.job j).rt.active = (s.job j).rt.active) ∧
    (∀ j, (s.job j).rt.state = .ready ∨ (s.job j).rt.state.inUse = true →
      (t.job j).defn = (s.job j).defn ∨ t.job j = .free)

/-- No command touches the queue of waiting commands. The straps change at RSTN_RISE alone (R3), and buffer memory at the commands
of `mayWriteMemory` alone (R5, R50, R168). -/
def Obligations.QueueStrapsAndMemory : Prop :=
  ∀ (i : Instr) (s t : State), exec i s = .next t → t.pending = s.pending ∧
    ((∀ n m a b, i ≠ .rstnRise n m a b) → t.straps = s.straps) ∧ (mayWriteMemory i = false → t.mem = s.mem)

/-! ### Reset, start-up and the clock -/

/-- While RSTn is low every output is at its level of R2. -/
def Obligations.PinsWhileRstnLow : Prop :=
  ∀ s : State, s.rstnLow = true →
    (∀ c l, s.selActive c l = false) ∧ (∀ c, s.sckHigh c = false ∧ s.sdoHigh c = false ∧ s.stbHigh c = false) ∧
      s.attnActive = false ∧ s.ltx = .high

/-- RSTN_LOW with the clock running gives every block its power-on value at once; with the clock stopped only the pins change,
and the values come with CORE_CLOCK_RETURNS (R2, R30, R49, R51, R52, R68, R111, R137, R138, R139, R196). The model's choices: the
tick phase usPhase starts at 0 (log entries 7 and 29), RSTN_LOW while RSTn is low changes nothing (log entry 5), and the order of
the engines' stores in `stopAll` (log entry 31). -/
def Obligations.PowerOnValues : Prop :=
  (∀ s : State, s.rstnLow = false → s.clock = true → exec .rstnLow s = .next { s.powerOn with rstnLow := true }) ∧
  (∀ s : State, s.rstnLow = false → s.clock = false → exec .rstnLow s = .next { s with rstnLow := true }) ∧
  (∀ s : State, s.rstnLow = true → exec .rstnLow s = .next s) ∧
  (∀ s : State, s.rstnLow = true → s.clock = false → exec .coreClockReturns s = .next { s.powerOn with clock := true }) ∧
  (∀ s : State, s.powerOn = { s with
    phase := .held, clearPos := 0, usPhase := 0, spi := { s.spi with ignored := false, slot := none }
    link := .powerOn, interp := .idle, mem := s.stopAll.mem, claim := none, rotation := 4
    targets := Vector.replicate 16 .default, jobs := Vector.replicate 64 .free, timers := Vector.replicate 4 .powerOn
    lines := Vector.replicate 4 { sel := .off, seen := none }, busySeen := Vector.replicate 4 none
    arbs := Vector.replicate 4 .powerOn, engs := Vector.replicate 4 .powerOn, notices := .powerOn })

/-- RSTN_RISE samples the straps and begins the start-up clear at address 0 (R3, R5); an SPI transaction under way is ignored
(R6). After a low time below 10 µs, or before the reset has taken effect inside the part, the state is not specified and the
model stops (R2; the second case is the model's reading, log entry 8). -/
def Obligations.RstnRise : Prop :=
  ∀ (s : State) (n : Nat) (m a b : Bool), s.rstnLow = true →
    (s.phase = .held → 10 ≤ n → exec (.rstnRise n m a b) s = .next { s with
      rstnLow := false, phase := .startUp, clearPos := 0, straps := { spi := m, br1 := a, br0 := b }
      spi := { s.spi with ignored := m && s.spi.lselnLow, slot := none } }) ∧
    (s.phase ≠ .held ∨ n < 10 → exec (.rstnRise n m a b) s = .fault .resetTooShort)

/-- START_UP_CLEAR_COMPLETE leaves every byte 00h, takes the levels then on TRG and BUSY as the first seen and the receiver to
HUNT, and hands STARTED with cause POWER (R5, R7, R9, R144, R195); the command brings those levels (log entry 11), and ends the
clear however far the clock has taken it (log entry 12). From power-on values the STARTED frame starts at once in
UART mode and waits in SPI mode, and ATTN is active. -/
def Obligations.StartUpClearComplete : Prop :=
  ∀ (s : State) (trg busy : BitVec 4), s.phase = .startUp → s.rstnLow = false → s.clock = true →
    exec (.startUpClearComplete trg busy) s = .next (State.uartBoundary { s.firstLevels trg busy with
      phase := .running, clearPos := 0, mem := [], link := { s.link with rx := .hunting }
      notices := s.notices.hand (.started .power) }) ∧
    (∀ a, Memory.read [] a = 0) ∧
    (∀ n, (s.firstLevels trg busy).line n = { s.line n with seen := some (trg.getLsbD n.1) }) ∧
    (∀ n, (s.firstLevels trg busy).busyLevel n = some (busy.getLsbD n.1)) ∧
    s.firstLevels trg busy = { s with
      lines := (s.firstLevels trg busy).lines, busySeen := (s.firstLevels trg busy).busySeen } ∧
    (s.link = .powerOn → s.notices = .powerOn → ∃ t, exec (.startUpClearComplete trg busy) s = .next t ∧
      t.attnActive = true ∧
      (s.straps.spi = true → t.notices.records = [.started .power] ∧ t.link.tx = none) ∧
      (s.straps.spi = false → t.notices.records = [] ∧
        t.link.tx = some { source := .notice, bytes := Notice.frame (.started .power), sent := 0 }))

/-- CORE_CLOCK_STOPS and CORE_CLOCK_RETURNS change nothing but the clock, so that every interval goes on from where it stopped
(R1). The model's reading: the frame boundary of an idle UART transmitter waits for the clock's return (log entry 9), and
CORE_CLOCK_RETURNS with the clock running changes nothing (log entry 5). -/
def Obligations.CoreClock : Prop :=
  ∀ s : State,
    exec .coreClockStops s = .next { s with clock := false } ∧
    (s.clock = true → exec .coreClockReturns s = .next s) ∧
    (s.clock = false → s.rstnLow = false → exec .coreClockReturns s = .next (State.uartBoundary { s with clock := true }))

/-- RESET is answered OK at once, and the interpreter then waits in RESET_WAIT, taking no request (R32, R44). The reset falls at
the end of its answer's frame: the straps, memory, and the levels seen on the inputs are kept; every other block takes its
power-on value, and STARTED with cause RESET_REQUEST is queued (R31, R46, R47). An engine that stops stores a received byte that
waits (R168), the engines in rising channel order (the model's choice, log entry 31). -/
def Obligations.ResetRequest : Prop :=
  (∀ (s : State) (p : Fin 4) (r : Request), s.carries 0x03 p r → r.payload = [] →
    exec .reset s = .next (State.uartBoundary
      { s with link := s.link.answered p r (r.answer .ok []), interp := .resetWait p })) ∧
  (∀ (s : State) (p : Fin 4), s.interp = .resetWait p →
    s.frameSent (.answer (.place p)) =
      { s with
        link := .powerOn, interp := .idle, claim := none, rotation := 4, mem := s.stopAll.mem
        targets := Vector.replicate 16 .default, jobs := Vector.replicate 64 .free, timers := Vector.replicate 4 .powerOn
        lines := s.lines.map (fun l => { l with sel := .off }), arbs := Vector.replicate 4 .powerOn
        engs := Vector.replicate 4 .powerOn
        notices := { records := [.started .resetRequest], lost := 0, paused := false } }) ∧
  (∀ (s : State), (∀ c, (s.eng c).storeWaiting = none) → s.stopAll.mem = s.mem)

/-! ### The output pins -/

/-- ATTN is active exactly while RSTn is high and an unstarted answer, an unpaused notice or a frame in progress is there (R29). -/
def Obligations.AttnCondition : Prop :=
  ∀ s : State, s.attnActive = true ↔ s.rstnLow = false ∧
    ((∃ r ∈ s.link.answers, s.link.sending ≠ some r) ∨ (s.notices.records ≠ [] ∧ s.notices.paused = false) ∨
      s.link.tx ≠ none)

/-- The channel pins follow the engine's state (R66, R70, R71, R140 to R142, R150): at most one select line of a channel is active,
that of the served target; STB is high in UNIT_END until its pulse has ended; outside SHIFT, SCK is at the rest level and SDO as
the last event left it. In SHIFT, at core clock h of bit period k, SCK is away from the rest level in the second half of the
period, and each bit of a byte held is put on SDO at the start of its period in clock modes 0 and 2, at its middle in modes 1
and 3. Where in a byte a state stands is read from the interval's count (the model's reading, log entry 17); a byte not yet read
leaves SDO as it was (log entry 33), and SDO before the first edge in modes 1 and 3 is as left, after a busy wait too (log entry
34). -/
def Obligations.ChannelPins : Prop :=
  ∀ (s : State) (c : Fin 4) (e : Engine), s.rstnLow = false → e = s.eng c →
    (∀ l, s.selActive c l = true ↔ ∃ t, e.served = some t ∧ l.1 = t.1 % 4 ∧
      (e.state = .busyWait ∨ e.state = .shift ∨ e.state = .gap ∨ e.state = .unitEnd ∨ e.state = .lag ∨
        (e.state = .lead ∧ e.asserted = true))) ∧
    (∀ l k, s.selActive c l = true → s.selActive c k = true → l = k) ∧
    (s.stbHigh c = true ↔ e.state = .unitEnd ∧ e.ended = false) ∧
    (e.state ≠ .shift → s.sckHigh c = e.restHigh ∧ s.sdoHigh c = e.sdo) ∧
    (∀ t p half k h, e.state = .shift → e.served = some t → p = s.target t → half = p.divider.toNat + 1 →
      k < 8 → h < 2 * half → e.interval + (2 * half * k + h) = 8 * (2 * half) →
      s.sckHigh c = (e.restHigh ^^ decide (half ≤ h)) ∧
      ∀ (b : Byte) (bit : Nat → Bool), e.cur = .held b →
        (∀ i, bit i = match p.order with | .msbFirst => b.getLsbD (7 - i) | .lsbFirst => b.getLsbD i) →
        s.sdoHigh c = if p.clockMode.1 % 2 = 0 ∨ half ≤ h then bit k else if k = 0 then e.sdo else bit (k - 1)) ∧
    (e.state = .shift → (∀ b, e.cur ≠ .held b) → s.sdoHigh c = e.sdo) ∧
    (∀ t b, e.state = .shift → e.served = some t → e.interval = 0 → e.cur = .held b → s.sckHigh c = e.restHigh ∧
      s.sdoHigh c = match (s.target t).order with | .msbFirst => b.getLsbD 0 | .lsbFirst => b.getLsbD 7)

/-! ### Frames and the receiver -/

/-- The CRC of the nine bytes of "123456789" is 29B1h (R14); a frame is SYNC, LEN, TAG, TYPE, the payload and the CRC over LEN to
payload, low byte first, 6 + LEN bytes in all (R13). -/
def Obligations.FramesAndCrc : Prop :=
  crcOf [0x31, 0x32, 0x33, 0x34, 0x35, 0x36, 0x37, 0x38, 0x39] = 0x29B1 ∧
  (∀ (crc : Half) (bit : Bool), crcBit crc bit = if (bit ^^ crc.getLsbD 15) = true then (crc <<< 1) ^^^ 0x1021 else crc <<< 1) ∧
  (∀ (tag typ : Byte) (p : List Byte), ∃ crc, crc = crcOf (natByte p.length :: tag :: typ :: p) ∧
    frameBytes tag typ p = [0xA5, natByte p.length, tag, typ] ++ p ++ [crc.setWidth 8, (crc >>> 8).setWidth 8] ∧
    (frameBytes tag typ p).length = 6 + p.length)

/-- A whole frame passed to a receiver in HUNT byte by byte is found, whatever its bytes, and is handed on once; the receiver is
back in HUNT (R15, R16, R17). -/
def Obligations.GoodFrameIsReceived : Prop :=
  ∀ (s : State) (tag typ : Byte) (p : List Byte), s.link.rx.state = .hunt → p.length ≤ 240 →
    (frameBytes tag typ p).foldl State.rxByte s =
      (s.setRx .hunting).goodFrame tag typ p (crcOf (natByte p.length :: tag :: typ :: p))

/-- A frame with any other CRC field is a check failure: it is discarded and counted, and the receiver is back in HUNT (R17). In
HUNT any byte but A5h is ignored (R15); a LEN above 240 is a format error at once (R16); a format error is counted, discards the
partial frame and returns to HUNT, and what breaks a frame does nothing in HUNT (R18, R19); the counters saturate at 65535
(R20). -/
def Obligations.ReceiverErrors : Prop :=
  (∀ (s : State) (tag typ lo hi : Byte) (p : List Byte), s.link.rx.state = .hunt → p.length ≤ 240 →
    (hi ++ lo : BitVec 16) ≠ crcOf (natByte p.length :: tag :: typ :: p) →
    ([0xA5, natByte p.length, tag, typ] ++ p ++ [lo, hi]).foldl State.rxByte s =
      { s with link := { s.link with rx := .hunting, checkFailures := satInc16 s.link.checkFailures } }) ∧
  (∀ (s : State) (b : Byte), s.link.rx.state = .hunt → b ≠ 0xA5 → s.rxByte b = s) ∧
  (∀ (s : State) (b : Byte), s.link.rx.state = .header → s.link.rx.got = [] → 240 < b.toNat → s.rxByte b = s.formatError) ∧
  (∀ s : State, s.formatError =
    { s with link := { s.link with rx := .hunting, formatErrors := satInc16 s.link.formatErrors } }) ∧
  (∀ s : State, s.breakFrame = if s.link.rx.state = .hunt then s else s.formatError) ∧
  (∀ n : Half, (satInc16 n).toNat = min 65535 (n.toNat + 1))

/-- Acceptance, replay and refusal (R22 to R25, R32, R42): a duplicate of the last accepted request is discarded before its
answer, replayed after it into a free place, and refused when there is none; another frame is accepted into a free place or
refused; a refusal is answered FULL, or dropped and counted. -/
def Obligations.AcceptanceReplayRefusal : Prop :=
  ∀ (s : State) (tag typ : Byte) (payload : List Byte) (crc : Half),
    (∀ e, s.link.replay = some e → e.tag = tag → e.crc = crc →
      (e.answer = none → s.goodFrame tag typ payload crc = s) ∧
      (∀ a p, e.answer = some a → s.freePlace = some p → s.goodFrame tag typ payload crc = { s with link := { s.link with
        places := s.link.places.set p.1 (.replayed a) p.2, answers := s.link.answers ++ [.place p] } }) ∧
      (∀ a, e.answer = some a → s.freePlace = none → s.goodFrame tag typ payload crc = s.refuse tag typ)) ∧
    ((∀ e, s.link.replay = some e → e.tag ≠ tag ∨ e.crc ≠ crc) →
      (∀ p, s.freePlace = some p → s.goodFrame tag typ payload crc = { s with
        link := { s.link with
          places := s.link.places.set p.1 (.request { tag := tag, typ := typ, payload := payload
                                                      claimHeld := decide (typ = 0x02) && s.claim.isSome }) p.2
          replay := some { tag := tag, crc := crc, place := p, answer := none }
          waiting := if s.interp = .idle then s.link.waiting else s.link.waiting ++ [p] }
        interp := if s.interp = .idle then .executing p .fresh else s.interp }) ∧
      (s.freePlace = none → s.goodFrame tag typ payload crc = s.refuse tag typ)) ∧
    (s.link.refusal = none → s.refuse tag typ = { s with link := { s.link with
      refusal := some { tag := tag, typ := if typ.toNat < 128 then typ + 0x80 else typ, payload := [0x01] }
      answers := s.link.answers ++ [.refusal] } }) ∧
    (s.link.refusal ≠ none → s.refuse tag typ = { s with link := { s.link with dropped := satInc16 s.link.dropped } }) ∧
    (∀ p, s.freePlace = some p → s.place p = .empty) ∧ (s.freePlace = none ↔ ∀ p, s.place p ≠ .empty)

/-! ### Bytes and edges at the link pins -/

/-- In UART mode a character with a high stop bit goes to the frame receiver, one with a low stop bit and a silence are format
errors inside a frame (R10, R18). That a silence is given as a command is the model's choice (log entry 27). -/
def Obligations.UartCharacters : Prop :=
  ∀ (s : State) (b : Byte), s.timed = true → s.straps.spi = false →
    exec (.uartCharacterComplete b true) s = .next (s.rxByte b).uartBoundary ∧
    exec (.uartCharacterComplete b false) s = .next s.breakFrame.uartBoundary ∧
    exec .silenceAbort s = .next s.breakFrame.uartBoundary

/-- A byte slot begins with the next unsent byte of the frame in progress, or with a frame that the boundary choice finds, or
with the idle fill; during start-up, no frame being in progress, with the fill (R6, R12). LSELn's edges begin and end a
transaction (R11); the rising edge is a format error inside a frame (R19), keeps the outbound frame, and ends the ignoring of a
transaction (R6). LSELN_FALL while LSELn is low and LSELN_RISE while it is high change nothing (the model's choice, log entry 5). -/
def Obligations.LselnEdges : Prop :=
  (∀ s : State, s.spi.lselnLow = false →
    exec .lselnFall s = if s.straps.spi = true ∧ s.rstnLow = false ∧ s.phase ≠ .held
      then .next (State.slotStart { s with spi := { s.spi with lselnLow := true } })
      else .next { s with spi := { s.spi with lselnLow := true } }) ∧
  (∀ s : State, s.spi.lselnLow = true → exec .lselnFall s = .next s) ∧
  (∀ s : State, s.spi.lselnLow = false → exec .lselnRise s = .next s) ∧
  (∀ s : State, s.spi.lselnLow = true → exec .lselnRise s = if s.live = true ∧ s.straps.spi = true
    then .next (State.breakFrame { s with spi := { lselnLow := false, ignored := false, slot := none } })
    else .next { s with spi := { lselnLow := false, ignored := false, slot := none } }) ∧
  (∀ s : State, s.phase = .running → s.slotStart = { s.frameBoundary with
    spi := { s.spi with slot := some (if s.frameBoundary.link.tx = none then .fill else .frameByte) } }) ∧
  (∀ s : State, s.phase ≠ .running → s.link.tx = none →
    s.slotStart = { s with spi := { s.spi with slot := some .fill } })

/-- The eighth bit of a byte slot: the inbound byte goes to the receiver, a frame byte outbound counts as sent and a fill byte
for nothing, in the order that the two halves fall, and the next slot begins; during start-up the byte is discarded (R6, R11,
R12). That order is an operand (the model's choice, log entry 10), and outside a slot nothing happens (log entry 5). -/
def Obligations.SpiBytes : Prop :=
  (∀ (s : State) (b : Byte) (k : Slot), s.spi.slot = some k → s.straps.spi = true → s.rstnLow = false →
    (s.phase = .running →
      exec (.spiByteComplete b true) s =
        .next (((match k with | .fill => s | .frameByte => s.txByteSent).rxByte b).slotStart) ∧
      exec (.spiByteComplete b false) s =
        .next ((match k with | .fill => s.rxByte b | .frameByte => (s.rxByte b).txByteSent).slotStart)) ∧
    (∀ f, s.phase = .startUp → exec (.spiByteComplete b f) s = .next s.slotStart)) ∧
  (∀ (s : State) (b : Byte) (f : Bool), s.spi.slot = none → exec (.spiByteComplete b f) s = .next s)

/-- UART_BYTE_SENT counts a byte of the frame in progress. After the last one an answer leaves the queue and its place or the
refusal place is free (R21, R26), and a frame boundary follows at once (R27). While a byte is being sent, at core clock h of bit
time k, LTX carries a start bit (low), the 8 data bits least significant first, and a stop bit (high); between frames it rests
high (R10). The place in the character is read from txClocks (the model's reading, log entry 17). -/
def Obligations.UartByteSent : Prop :=
  (∀ s : State, s.rstnLow = false → s.straps.spi = false → s.link.txByte = none → s.ltx = .high) ∧
  (∀ (s : State) (b : Byte) (n k h : Nat), s.rstnLow = false → s.straps.spi = false → s.link.txByte = some b →
    n = Config.uartBitClocks s.straps.br1 s.straps.br0 → k < 10 → h < n → s.link.txClocks + (n * k + h) = 10 * n →
    s.ltx = if k = 0 ∨ (k < 9 ∧ b.getLsbD (k - 1) = false) then .low else .high) ∧
  (∀ s : State, s.timed = true → s.straps.spi = false → exec .uartByteSent s = .next s.txByteSent.uartBoundary) ∧
  (∀ s : State, s.link.tx = none → s.txByteSent = s) ∧
  (∀ (s : State) (f : TxFrame), s.link.tx = some f → f.sent + 1 < f.bytes.length →
    s.txByteSent = { s with link := { s.link with
      tx := some { f with sent := f.sent + 1 }, txClocks := if s.straps.spi = true then 0 else s.straps.charClocks } }) ∧
  (∀ (s : State) (f : TxFrame), s.link.tx = some f → f.bytes.length ≤ f.sent + 1 → s.txByteSent = s.frameSent f.source) ∧
  (∀ s : State, s.frameSent .notice = { s with link := { s.link with tx := none, txClocks := 0 } }) ∧
  (∀ s : State, s.frameSent (.answer .refusal) = { s with link := { s.link with
    tx := none, txClocks := 0, refusal := none, answers := s.link.answers.erase .refusal } }) ∧
  (∀ (s : State) (p : Fin 4), s.interp ≠ .resetWait p → s.frameSent (.answer (.place p)) = { s with link := { s.link with
    tx := none, txClocks := 0, places := s.link.places.set p.1 .empty p.2
    answers := s.link.answers.erase (.place p) } })

/-- The choice at a frame boundary: the oldest answer, else, if notices are not paused, the oldest notice record, which leaves its
queue as its frame starts; a NOTICE_LOST with the lost count then joins at the back (R27, R191, R192). A frame in progress is
never replaced (R28). In UART mode an idle transmitter takes the choice at once (R27): in the model at the end of the event that
makes it due, with the clock running (log entries 9, 20 and 32). The payload of a notice frame is its record's kind and fields,
two-byte fields less significant byte first (R201, R205). -/
def Obligations.FrameBoundaryChoice : Prop :=
  (∀ s : State, s.link.tx ≠ none → s.frameBoundary = s) ∧
  (∀ (s : State) (r : AnswerRef) (l : List AnswerRef) (a : Answer), s.link.tx = none → s.link.answers = r :: l →
    s.answerOf r = some a → s.frameBoundary = { s with link := { s.link with
      tx := some { source := .answer r, bytes := frameBytes a.tag a.typ a.payload, sent := 0 }
      txClocks := if s.straps.spi = true then 0 else s.straps.charClocks } }) ∧
  (∀ (s : State) (n : Notice) (l : List Notice), s.link.tx = none → s.link.answers = [] → s.notices.paused = false →
    s.notices.records = n :: l → s.frameBoundary = { s with
      link := { s.link with
        tx := some { source := .notice, bytes := frameBytes 0 0xC0 n.bytes, sent := 0 }
        txClocks := if s.straps.spi = true then 0 else s.straps.charClocks }
      notices := { s.notices with
        records := if s.notices.lost = 0 then l else l ++ [.noticeLost s.notices.lost], lost := 0 } }) ∧
  (∀ s : State, s.link.answers = [] → s.notices.paused = true ∨ s.notices.records = [] → s.frameBoundary = s) ∧
  (∀ s : State, s.uartBoundary = if s.timed = true ∧ s.straps.spi = false then s.frameBoundary else s) ∧
  (∀ (s : State) (p : Fin 4) (r : Request) (a : Answer), s.place p = .answered r a ∨ s.place p = .replayed a →
    s.answerOf (.place p) = some a) ∧
  (∀ s : State, s.answerOf .refusal = s.link.refusal) ∧
  ((Notice.started .power).bytes = [0x01, 0x01, 0x01] ∧ (Notice.started .resetRequest).bytes = [0x01, 0x02, 0x01]) ∧
  (∀ (j : Fin 64) (e : Ending) (merged poll : Byte) (progress : Nat), (Notice.jobDone j e merged progress poll).bytes =
    [0x02, BitVec.ofNat 8 j.1
      , match e with | .noEnding => 0x00 | .complete => 0x01 | .noMatch => 0x02 | .cancelled => 0x03 | .fault => 0x04
      , merged, BitVec.ofNat 8 progress, BitVec.ofNat 8 (progress / 256), poll]) ∧
  (∀ (j : Fin 64) (c : Fin 4) (f : JobFault) (progress : Nat), (Notice.jobFault j c f progress).bytes =
    [0x03, BitVec.ofNat 8 j.1, BitVec.ofNat 8 c.1
      , match f with | .noFault => 0x00 | .busyTimeout => 0x01 | .slip => 0x02 | .aborted => 0x03
      , BitVec.ofNat 8 progress, BitVec.ofNat 8 (progress / 256)]) ∧
  (∀ (j : Fin 64) (increments : Byte), (Notice.overrun j increments).bytes = [0x04, BitVec.ofNat 8 j.1, increments]) ∧
  (∀ count : Byte, (Notice.noticeLost count).bytes = [0x05, count])

/-! ### Checks common to all requests -/

/-- A TYPE outside the twenty codes is answered BAD_TYPE, with 80h added to a TYPE below 80h alone, whatever its length; LEN 1
tells the answer from a notice (R34). -/
def Obligations.BadType : Prop :=
  ∀ (s : State) (p : Fin 4) (r : Request), s.carries r.typ p r →
    (r.typ ∉ [0x01, 0x02, 0x03, 0x04, 0x10, 0x11, 0x18, 0x19, 0x20, 0x21, 0x22, 0x23, 0x24, 0x25, 0x26, 0x27, 0x30, 0x31,
      0x38, 0x39] → exec .unknownRequestType s = .next (s.answered p r .badType []).uartBoundary) ∧
    r.answer .badType [] =
      { tag := r.tag, typ := if r.typ.toNat < 128 then r.typ + 0x80 else r.typ, payload := [0x02] } ∧
    (∀ n : Notice, 1 < n.bytes.length)

/-- For each of the twenty requests, a LEN outside its permitted lengths is answered BAD_LENGTH and nothing else happens (R35,
R202). Then a job above 63, a target above 15, or a channel, timer or line above 3 is answered BAD_ARG, and nothing else happens
(R36). -/
def Obligations.BadLengthAndBadNumber : Prop :=
  (∀ (i : Instr) (code : Byte) (s : State) (p : Fin 4) (r : Request), requestCode i = some code → s.carries code p r →
    permittedLen code r.payload.length = false →
    exec i s = .next (s.answered p r .badLength []).uartBoundary ∧
    r.answer .badLength [] = { tag := r.tag, typ := code + 0x80, payload := [0x03] }) ∧
  (∀ (e : Byte × Nat × Nat), e ∈ [(0x01, 0, 0), (0x02, 1, 1), (0x03, 0, 0), (0x04, 1, 1), (0x10, 13, 13), (0x11, 1, 1),
      (0x18, 3, 240), (0x19, 3, 3), (0x20, 24, 24), (0x21, 1, 1), (0x22, 1, 1), (0x23, 1, 1), (0x24, 1, 1), (0x25, 1, 1),
      (0x26, 1, 1), (0x27, 1, 1), (0x30, 2, 2), (0x31, 1, 1), (0x38, 4, 4), (0x39, 2, 2)] →
    ∀ n, permittedLen e.1 n = true ↔ e.2.1 ≤ n ∧ n ≤ e.2.2) ∧
  (∀ (i : Instr) (code : Byte) (limit : Nat) (s : State) (p : Fin 4) (r : Request), requestCode i = some code →
    numberLimit i = some limit → s.carries code p r → permittedLen code r.payload.length = true →
    limit ≤ (byteAt r.payload 0).toNat → exec i s = .next (s.answered p r .badArg []).uartBoundary)

/-! ### Requests on the part as a whole -/

/-- IDENTIFY reports the part's identity and the straps as sampled, and changes nothing (R40, R204). -/
def Obligations.Identify : Prop :=
  ∀ (s : State) (p : Fin 4) (r : Request), s.carries 0x01 p r → r.payload = [] →
    exec .identify s = .next (s.answered p r .ok
      [0x4E, 0x64, 0x4C, 0x01, 0x04, 0x10, 0x40, 0x00, 0x20, 0x20, if s.straps.spi = true then 0x01 else 0x00
        , match s.straps.br1, s.straps.br0 with
          | false, false => 0
          | false, true => 1
          | true, false => 2
          | true, true => 3]).uartBoundary

/-- STATUS reports five fields of each channel and those of the part, all as they stand; a clear flag of 1 then sets the three
link counters to 0; another value than 0 and 1 is BAD_ARG (R41, R42, R43, R204). The codes are those that O45 writes out. -/
def Obligations.Status : Prop :=
  ∀ (s : State) (p : Fin 4) (r : Request) (b : Byte), s.carries 0x02 p r → r.payload = [b] →
    (2 ≤ b.toNat → exec .status s = .next (s.answered p r .badArg []).uartBoundary) ∧
    (b = 0 → exec .status s = .next (s.answered p r .ok (s.statusBytes r.claimHeld)).uartBoundary) ∧
    (b = 1 → exec .status s = .next (State.answered
      { s with link := { s.link with checkFailures := 0, formatErrors := 0, dropped := 0 } } p r .ok
      (s.statusBytes r.claimHeld)).uartBoundary) ∧
    (∀ held, s.statusBytes held =
      ([0, 1, 2, 3] : List (Fin 4)).flatMap (fun c => [(s.eng c).state.code, jobOrNone (s.runningJob c)
        , jobOrNone (s.arb c).slot, flagByte (s.arb c).held, natByte (s.readyQueue c).length]) ++
      [natByte (s.link.places.toList.countP (fun q => decide (q ≠ .empty))), natByte s.notices.records.length
        , s.notices.lost, flagByte s.notices.paused] ++ halfBytes s.link.checkFailures ++ halfBytes s.link.formatErrors ++
      halfBytes s.link.dropped ++ [flagByte held]) ∧
    (∀ c j, s.Coherent → (s.runningJob c = some j ↔ s.onChannel c j = true ∧ (s.job j).rt.state = .running)) ∧
    (∀ c j, j ∈ s.readyQueue c ↔ s.onChannel c j = true ∧ (s.job j).rt.state = .ready)

/-- NOTICE_CONTROL sets or clears the pause flag and reports it, the fill and the lost count (R194). -/
def Obligations.NoticeControl : Prop :=
  ∀ (s : State) (p : Fin 4) (r : Request) (b : Byte), s.carries 0x04 p r → r.payload = [b] →
    (2 ≤ b.toNat → exec .noticeControl s = .next (s.answered p r .badArg []).uartBoundary) ∧
    (b.toNat < 2 → exec .noticeControl s = .next (State.answered
      { s with notices := { s.notices with paused := decide (b = 1) } } p r .ok
      [b, natByte s.notices.records.length, s.notices.lost]).uartBoundary)

/-! ### Targets -/

/-- TARGET_SET replaces the whole profile, unless a field or a rule is broken (BAD_ARG) or a job that uses the target is RUNNING
or SUSPENDED (TARGET_IN_USE); TARGET_GET reports the profile (R77, R78, R79). -/
def Obligations.TargetRequests : Prop :=
  (∀ (s : State) (p : Fin 4) (r : Request) (n : Fin 16), s.carries 0x10 p r → r.payload.length = 13 →
    (byteAt r.payload 0).toNat = n.1 →
    (parseProfile r.payload = none → exec .targetSet s = .next (s.answered p r .badArg []).uartBoundary) ∧
    (∀ f, parseProfile r.payload = some f →
      ((∃ j d, (s.job j).defn = some d ∧ d.target = n ∧
        ((s.job j).rt.state = .running ∨ (s.job j).rt.state = .suspended)) →
        exec .targetSet s = .next (s.answered p r .targetInUse []).uartBoundary) ∧
      ((∀ j d, (s.job j).defn = some d → d.target = n →
        (s.job j).rt.state ≠ .running ∧ (s.job j).rt.state ≠ .suspended) →
        exec .targetSet s = .next (State.answered { s with targets := s.targets.set n.1 f n.2 } p r .ok []).uartBoundary))) ∧
  (∀ (s : State) (p : Fin 4) (r : Request) (n : Fin 16), s.carries 0x11 p r → r.payload = [natByte n.1] →
    exec .targetGet s = .next (s.answered p r .ok (natByte n.1 :: (s.target n).bytes)).uartBoundary)

/-- A TARGET_SET payload is taken exactly when some profile in range has its bytes, and as that profile; so the eleven fields
that TARGET_GET reports tell the profiles in range apart (R67, R77, R203). -/
def Obligations.ProfileCoding : Prop :=
  (∀ (p : List Byte) (f : Profile), p.length = 13 → (parseProfile p = some f ↔ f.lawful = true ∧ p.drop 1 = f.bytes)) ∧
  (∀ f : Profile, f.bytes =
    [f.divider, natByte f.clockMode.1, match f.order with | .msbFirst => 0 | .lsbFirst => 1, f.lead, f.lag, f.gap
      , natByte f.unit, match f.busy with | .off => 0 | .activeHigh => 1 | .activeLow => 2, f.timeout.setWidth 8
      , (f.timeout >>> 8).setWidth 8, if f.strobe = true then 1 else 0, if f.slipCheck = true then 1 else 0])

/-! ### Buffer memory -/

/-- MEM_WRITE: BAD_ARG when its range leaves memory, WINDOW_BUSY when it shares an address with a window in use; else the write
claim is taken on the range and the writing begins (R54, R55, R56, R57). -/
def Obligations.MemWrite : Prop :=
  ∀ (s : State) (p : Fin 4) (r : Request) (lo hi : Byte) (data : List Byte) (a : Nat), s.carries 0x18 p r →
    r.payload = lo :: hi :: data → 1 ≤ data.length → data.length ≤ 238 → a = lo.toNat + 256 * hi.toNat →
    s.definitionsLawful →
    (8191 < a ∨ 8192 < a + data.length → exec .memWrite s = .next (s.answered p r .badArg []).uartBoundary) ∧
    (a + data.length ≤ 8192 →
      ((∃ v ∈ s.windowsInUse, ∃ b, v.start ≤ b ∧ b < v.start + v.len ∧ a ≤ b ∧ b < a + data.length) →
        exec .memWrite s = .next (s.answered p r .windowBusy []).uartBoundary) ∧
      ((∀ v ∈ s.windowsInUse, ∀ b, v.start ≤ b → b < v.start + v.len → b < a ∨ a + data.length ≤ b) →
        exec .memWrite s = .next (State.uartBoundary
          { s with claim := some { start := a, len := data.length }, interp := .executing p (.writing a data 0) })))

/-- The windows in use are the active window of each RUNNING or SUSPENDED job, and window B of each such EXCHANGE job (R55). -/
def Obligations.WindowsInUse : Prop :=
  ∀ (s : State) (v : Window), v ∈ s.windowsInUse ↔
    ∃ j d, (s.job j).defn = some d ∧ ((s.job j).rt.state = .running ∨ (s.job j).rt.state = .suspended) ∧
      match d.kind with
      | .send | .receive => v = (match (s.job j).rt.active, d.winB with | .b, some w => w | _, _ => d.winA)
      | .poll => v = d.winA
      | .exchange => v = d.winA ∨ d.winB = some v

/-- The end of a MEM_WRITE: once the last byte is written the claim is released, OK is placed, and a fresh choice is due on every
channel: all four is the model's reading of R125 and R58 (log entry 22). MEM_READ: BAD_ARG by its checks, else the reading begins,
with no claim; its end places OK with the bytes (R61). That the end is a command of its own is the model's choice (log entry 21). -/
def Obligations.MemWriteDoneAndMemRead : Prop :=
  (∀ (s : State) (p : Fin 4) (r : Request) (a : Nat) (data : List Byte), s.live = true → s.place p = .request r →
    s.interp = .executing p (.writing a data data.length) →
    exec .memWriteDone s = .next (State.answered
      { s with claim := none, arbs := s.arbs.map (fun x => { x with choiceDue := true }) } p r .ok []).uartBoundary) ∧
  (∀ (s : State) (p : Fin 4) (r : Request) (lo hi n : Byte) (a : Nat), s.carries 0x19 p r → r.payload = [lo, hi, n] →
    a = lo.toNat + 256 * hi.toNat →
    (8191 < a ∨ n = 0 ∨ 236 < n.toNat ∨ 8192 < a + n.toNat →
      exec .memRead s = .next (s.answered p r .badArg []).uartBoundary) ∧
    (1 ≤ n.toNat → n.toNat ≤ 236 → a + n.toNat ≤ 8192 →
      exec .memRead s = .next (State.uartBoundary { s with interp := .executing p (.reading a n.toNat []) }))) ∧
  (∀ (s : State) (p : Fin 4) (r : Request) (a : Nat) (got : List Byte), s.live = true → s.place p = .request r →
    s.interp = .executing p (.reading a got.length got) →
    exec .memReadDone s = .next (s.answered p r .ok got).uartBoundary)

/-- The memory arbiter grants the first requester with an access waiting, in rotation order from the one after the requester
granted last: CH0 to CH3, then the interpreter, then CH0 again (R52). -/
def Obligations.MemoryRotation : Prop :=
  ∀ (s : State) (q : Fin 5),
    (s.nextRequester = some q ↔ s.asking q = true ∧
      ∀ k, s.asking k = true → (q.1 + 4 - s.rotation.1) % 5 ≤ (k.1 + 4 - s.rotation.1) % 5) ∧
    (∀ c : Fin 4, s.asking ⟨c.1, Nat.lt_succ_of_lt c.2⟩ = true ↔ (s.eng c).asks ≠ []) ∧
    (s.asking 4 = true ↔ (∃ p a data n, s.interp = .executing p (.writing a data n) ∧ n < data.length) ∨
      (∃ p a n got, s.interp = .executing p (.reading a n got) ∧ got.length < n))

/-- A grant to the interpreter moves one byte of its MEM_WRITE or MEM_READ, in rising address order, and the rotation position
(R52, R58, R61); the end of the MEM_WRITE or MEM_READ is a command of its own (the model's choice, log entry 21). -/
def Obligations.GrantToInterpreter : Prop :=
  (∀ (s : State) (p : Fin 4) (a n : Nat) (data : List Byte), s.live = true → s.nextRequester = some 4 →
    s.interp = .executing p (.writing a data n) → a + n < 8192 →
    exec .memoryGrant s = .next (State.uartBoundary { s with
      rotation := 4, mem := s.mem.write (a + n) (byteAt data n), interp := .executing p (.writing a data (n + 1)) })) ∧
  (∀ (s : State) (p : Fin 4) (a n : Nat) (got : List Byte), s.live = true → s.nextRequester = some 4 →
    s.interp = .executing p (.reading a n got) → a + got.length < 8192 →
    exec .memoryGrant s = .next (State.uartBoundary { s with
      rotation := 4, interp := .executing p (.reading a n (got ++ [s.mem.read (a + got.length)])) })) ∧
  (∀ (m : Memory) (a b : Nat) (v : Byte), Memory.wf m → a < 8192 →
    (m.write a v).read b = if b = a then v else m.read b)

/-- A grant to an engine reads the byte it waits for into its outbound register, from the window of R147, or stores the byte it
received at position progress of its receiving window; a byte whose eighth period has ended is complete with its store, and the
engine goes on if it stayed for it (R50, R143, R146, R147, R148). The model's choices: an engine's accesses are made first in first
out (log entry 23), and a kind that has no such window gives the address 8192, which stops (log entry 24). -/
def Obligations.GrantToEngine : Prop :=
  ∀ (s : State) (c : Fin 4) (x : Pass) (rest : List Ask), s.live = true →
    s.nextRequester = some ⟨c.1, Nat.lt_succ_of_lt c.2⟩ → s.pass? c = some x →
    (∀ k, (s.eng c).asks = .read :: rest → (s.eng c).cur = .waiting k → s.readAddr x k < 8192 →
      exec .memoryGrant s = .next (State.uartBoundary (State.setEng { s with rotation := ⟨c.1, Nat.lt_succ_of_lt c.2⟩ } c
        { s.eng c with asks := rest, cur := .held (s.mem.read (s.readAddr x k)) }))) ∧
    (∀ k, (s.eng c).asks = .read :: rest → (∀ m, (s.eng c).cur ≠ .waiting m) → (s.eng c).nxt = .waiting k →
      s.readAddr x k < 8192 →
      exec .memoryGrant s = .next (State.uartBoundary (State.setEng { s with rotation := ⟨c.1, Nat.lt_succ_of_lt c.2⟩ } c
        { s.eng c with asks := rest, nxt := .held (s.mem.read (s.readAddr x k)) }))) ∧
    (∀ b t, (s.eng c).asks = .store b :: rest → s.storeAddr x < 8192 →
      t = State.setEng { s with rotation := ⟨c.1, Nat.lt_succ_of_lt c.2⟩, mem := s.mem.write (s.storeAddr x) b } c
        { s.eng c with asks := rest } →
      exec .memoryGrant s = .next (State.uartBoundary
        (if (s.eng c).owed = true then (t.countByte x).afterStore x else t))) ∧
    (∀ k, s.readAddr x k = match x.defn.kind with
      | .send => (activeWindow x.defn (s.job x.job).rt.active).start + k
      | .exchange | .poll => x.defn.winA.start + k
      | .receive => 8192) ∧
    s.storeAddr x = match x.defn.kind, x.defn.winB with
      | .receive, _ => (activeWindow x.defn (s.job x.job).rt.active).start + (s.job x.job).rt.progress
      | .exchange, some w => w.start + (s.job x.job).rt.progress
      | _, _ => 8192


/-! ### Requests on jobs -/

/-- JOB_DEFINE replaces the definition whole and sets every runtime field in FREE and ARMED; BAD_ARG goes before WRONG_STATE (R82,
R85, R89). JOB_GET reports the definition, JOB_STATUS the eleven runtime fields (R90, R91). The codes are those that O45 writes
out. -/
def Obligations.JobDefinitionRequests : Prop :=
  (∀ (s : State) (p : Fin 4) (r : Request) (j : Fin 64), s.carries 0x20 p r → r.payload.length = 24 →
    (byteAt r.payload 0).toNat = j.1 →
    (parseJobDef r.payload = none → exec .jobDefine s = .next (s.answered p r .badArg []).uartBoundary) ∧
    (∀ d, parseJobDef r.payload = some d →
      ((s.job j).rt.state = .free ∨ (s.job j).rt.state = .armed →
        exec .jobDefine s = .next (State.answered { s with
          jobs := s.jobs.set j.1 {
            defn := some d
            rt := { state := .armed, cancel := false, pending := false, active := .a, swap := false, progress := 0
                    passCount := 0, overruns := 0, lastEnding := .noEnding, lastFault := .noFault, lastPoll := 0 } } j.2 }
          p r .ok []).uartBoundary) ∧
      ((s.job j).rt.state ≠ .free → (s.job j).rt.state ≠ .armed →
        exec .jobDefine s = .next (s.answered p r .wrongState []).uartBoundary))) ∧
  (∀ (s : State) (p : Fin 4) (r : Request) (j : Fin 64), s.carries 0x21 p r → r.payload = [natByte j.1] →
    ((s.job j).rt.state = .free → exec .jobGet s = .next (s.answered p r .wrongState []).uartBoundary) ∧
    (∀ d, (s.job j).rt.state ≠ .free → (s.job j).defn = some d →
      exec .jobGet s = .next (s.answered p r .ok (natByte j.1 :: d.bytes)).uartBoundary)) ∧
  (∀ (s : State) (p : Fin 4) (r : Request) (j : Fin 64) (x : Runtime), s.carries 0x22 p r → r.payload = [natByte j.1] →
    x = (s.job j).rt →
    exec .jobStatus s = .next (s.answered p r .ok ([natByte j.1, x.state.code, flagByte x.cancel, flagByte x.pending
      , x.active.code, flagByte x.swap] ++ natBytes x.progress ++ halfBytes x.passCount ++
      [x.overruns, x.lastEnding.code, x.lastFault.code, x.lastPoll])).uartBoundary)

/-- A JOB_DEFINE payload is taken exactly when some definition under the rules of R86 and R87 has its bytes, 0 standing for what
the record does not keep; and the bytes tell the definitions apart, so that JOB_GET loses no bit (R81, R85 to R88, R90, R203). The
codes of all enumerated fields, flags, job numbers and two-byte fields are those of R201, and the result codes those of R36. -/
def Obligations.JobDefinitionCoding : Prop :=
  (∀ (p : List Byte) (d : JobDef), p.length = 24 →
    (parseJobDef p = some d ↔ d.lawful = true ∧ d.bytes = keptDefinition p)) ∧
  (∀ d : JobDef, d.lawful = true ↔
    (d.winA.start < 8192 ∧ 1 ≤ d.winA.len ∧ d.winA.start + d.winA.len ≤ 8192) ∧
    (∀ w, d.winB = some w → w.start < 8192 ∧ w.len = d.winA.len ∧ w.start + w.len ≤ 8192 ∧
      (w.start + w.len ≤ d.winA.start ∨ d.winA.start + d.winA.len ≤ w.start)) ∧
    (d.kind = .exchange → d.winB ≠ none) ∧
    (d.kind = .poll → d.winB = none ∧ d.winA.len ≤ 16 ∧ d.retryLimit ≠ 0 ∧ d.pollMatch &&& d.pollMask = d.pollMatch) ∧
    (d.kind ≠ .poll → d.pollMask = 0 ∧ d.pollMatch = 0 ∧ d.retryLimit = 0 ∧ d.interval = 0)) ∧
  (∀ d : JobDef, d.bytes =
    [natByte d.target.1, d.kind.code, d.cls.code] ++ natBytes d.winA.start ++ natBytes d.winA.len ++
    (match d.winB with
      | none => [0, 0, 0, 0, 0]
      | some w => 1 :: natBytes w.start ++ natBytes w.len) ++
    [d.fill, d.segment, d.source.code, jobOrNone d.success, jobOrNone d.failure, if d.notify = true then 1 else 0
      , d.pollMask, d.pollMatch, d.retryLimit, d.interval.setWidth 8, (d.interval >>> 8).setWidth 8]) ∧
  ([Kind.send, .receive, .exchange, .poll].map Kind.code = [0x00, 0x01, 0x02, 0x03] ∧
    [JobClass.normal, .urgent].map JobClass.code = [0x00, 0x01] ∧
    [TrigSource.none, .timer 0, .timer 1, .timer 2, .timer 3, .line 0, .line 1, .line 2, .line 3].map TrigSource.code =
      [0x00, 0x10, 0x11, 0x12, 0x13, 0x20, 0x21, 0x22, 0x23] ∧
    [BitOrder.msbFirst, .lsbFirst].map BitOrder.code = [0x00, 0x01] ∧
    [BusyMode.off, .activeHigh, .activeLow].map BusyMode.code = [0x00, 0x01, 0x02] ∧
    [EdgeSel.off, .rising, .falling, .both].map EdgeSel.code = [0x00, 0x01, 0x02, 0x03] ∧
    [JobState.free, .armed, .ready, .running, .suspended, .halted].map JobState.code = [0x00, 0x01, 0x02, 0x03, 0x04, 0x05] ∧
    [EngState.idle, .lead, .busyWait, .shift, .gap, .unitEnd, .pollWait, .lag].map EngState.code =
      [0x00, 0x01, 0x02, 0x03, 0x04, 0x05, 0x06, 0x07] ∧
    [WinSel.a, .b].map WinSel.code = [0x00, 0x01] ∧
    [Ending.noEnding, .complete, .noMatch, .cancelled, .fault].map Ending.code = [0x00, 0x01, 0x02, 0x03, 0x04] ∧
    [JobFault.noFault, .busyTimeout, .slip, .aborted].map JobFault.code = [0x00, 0x01, 0x02, 0x03] ∧
    [TrigOutcome.queued, .pended, .overrun].map TrigOutcome.code = [some 0x00, some 0x01, some 0x02] ∧
    [Cause.power, .resetRequest].map Cause.code = [0x01, 0x02] ∧
    [Result.ok, .full, .badType, .badLength, .badArg, .wrongState, .windowBusy, .targetInUse].map Result.code =
      [0x00, 0x01, 0x02, 0x03, 0x04, 0x05, 0x06, 0x07]) ∧
  (flagByte false = 0x00 ∧ flagByte true = 0x01 ∧ jobOrNone none = 0xFF) ∧
  (∀ j : Fin 64, jobOrNone (some j) = BitVec.ofNat 8 j.1) ∧
  (∀ n : Nat, natByte n = BitVec.ofNat 8 n ∧ natBytes n = [BitVec.ofNat 8 n, BitVec.ofNat 8 (n / 256)]) ∧
  (∀ h : Half, halfBytes h = [BitVec.ofNat 8 h.toNat, BitVec.ofNat 8 (h.toNat / 256)])

/-- JOB_RELEASE makes an ARMED or HALTED job FREE (R109); JOB_CLEAR makes a HALTED job ARMED, taking a pending swap (R108);
JOB_SWAP cancels a pending swap, asks for one, or makes it at once (R62, R63). -/
def Obligations.JobRecordRequests : Prop :=
  (∀ (s : State) (p : Fin 4) (r : Request) (j : Fin 64), s.carries 0x23 p r → r.payload = [natByte j.1] →
    ((s.job j).rt.state = .armed ∨ (s.job j).rt.state = .halted → exec .jobRelease s =
      .next (State.answered { s with jobs := s.jobs.set j.1 .free j.2 } p r .ok []).uartBoundary) ∧
    ((s.job j).rt.state ≠ .armed → (s.job j).rt.state ≠ .halted →
      exec .jobRelease s = .next (s.answered p r .wrongState []).uartBoundary)) ∧
  (∀ (s : State) (p : Fin 4) (r : Request) (j : Fin 64) (w : WinSel), s.carries 0x26 p r → r.payload = [natByte j.1] →
    w = (if (s.job j).rt.swap = true then (s.job j).rt.active.flip else (s.job j).rt.active) →
    ((s.job j).rt.state = .halted → exec .jobClear s = .next (State.answered { s with
      jobs := s.jobs.set j.1 { s.job j with rt := { (s.job j).rt with state := .armed, active := w, swap := false } } j.2 }
      p r .ok [w.code]).uartBoundary) ∧
    ((s.job j).rt.state ≠ .halted → exec .jobClear s = .next (s.answered p r .wrongState []).uartBoundary)) ∧
  (∀ (s : State) (p : Fin 4) (r : Request) (j : Fin 64) (d : JobDef) (x y : Runtime), s.carries 0x27 p r →
    r.payload = [natByte j.1] → x = (s.job j).rt →
    (x.state = .free → exec .jobSwap s = .next (s.answered p r .wrongState []).uartBoundary) ∧
    (x.state ≠ .free → (s.job j).defn = some d → d.kind = .exchange ∨ d.kind = .poll ∨ d.winB = none →
      exec .jobSwap s = .next (s.answered p r .badArg []).uartBoundary) ∧
    (x.state ≠ .free → (s.job j).defn = some d → d.kind = .send ∨ d.kind = .receive → d.winB ≠ none →
      y = (if x.swap = true then { x with swap := false }
        else if x.state = .running ∨ x.state = .suspended then { x with swap := true }
        else { x with active := x.active.flip }) →
      exec .jobSwap s = .next (State.answered { s with jobs := s.jobs.set j.1 { s.job j with rt := y } j.2 } p r .ok
        [y.active.code, flagByte y.swap]).uartBoundary)) ∧
  WinSel.a.flip = .b ∧ WinSel.b.flip = .a

/-- The trigger rule, by the state and the flags found (R114); an overrun is counted, up to 255, and handed to the notice queue
(R115); JOB_START is a trigger and answers its outcome (R116). An idle UART transmitter makes its choice after the hand-over and the
answer (the model's choice, log entry 32). -/
def Obligations.TriggerRuleAndJobStart : Prop :=
  (∀ (s : State) (j : Fin 64) (x : Runtime) (overran pend : State), x = (s.job j).rt →
    overran = { s with
      jobs := s.jobs.set j.1 { s.job j with rt := { x with overruns := satInc8 x.overruns } } j.2
      notices := s.notices.hand (.overrun j 1) } →
    pend = { s with jobs := s.jobs.set j.1 { s.job j with rt := { x with pending := true } } j.2 } →
    (x.state = .free ∨ x.state = .halted ∨ (x.state = .running ∧ x.cancel = true) → s.trigger j = s) ∧
    (∀ d c, x.state = .armed → (s.job j).defn = some d → c = channelOf d.target → s.trigger j = { s with
      jobs := s.jobs.set j.1 { s.job j with rt := { x with state := .ready } } j.2
      arbs := s.arbs.set c.1 { s.arb c with choiceDue := true } c.2 } ∧ j ∈ (s.trigger j).readyQueue c) ∧
    (x.state = .ready → s.trigger j = overran) ∧
    ((x.state = .running ∧ x.cancel = false) ∨ x.state = .suspended → s.trigger j = if x.pending = true then overran else pend) ∧
    (∀ p r, s.carries 0x24 p r → r.payload = [natByte j.1] →
      (x.state = .free ∨ x.state = .halted ∨ (x.state = .running ∧ x.cancel = true) →
        exec .jobStart s = .next (s.answered p r .wrongState []).uartBoundary) ∧
      (x.state = .armed → exec .jobStart s = .next ((s.trigger j).answered p r .ok [0]).uartBoundary) ∧
      (x.state = .ready → exec .jobStart s = .next ((s.trigger j).answered p r .ok [2]).uartBoundary) ∧
      ((x.state = .running ∧ x.cancel = false) ∨ x.state = .suspended →
        exec .jobStart s = .next ((s.trigger j).answered p r .ok [if x.pending = true then 2 else 1]).uartBoundary))) ∧
  (∀ b : Byte, (satInc8 b).toNat = min 255 (b.toNat + 1))

/-- JOB_CANCEL by the state found (R103, R104, R107), in RUNNING even where the job has then ended (log entry 15), and what the
engine of the RUNNING job does at once (R105, R106, R161 to R167). An idle UART transmitter makes its choice after the hand-over
and the answer (the model's choice, log entry 32). -/
def Obligations.JobCancel : Prop :=
  (∀ (s : State) (p : Fin 4) (r : Request) (j : Fin 64) (x : Runtime), s.carries 0x25 p r → r.payload = [natByte j.1] →
    x = (s.job j).rt →
    (x.state = .free ∨ x.state = .halted → exec .jobCancel s = .next (s.answered p r .wrongState []).uartBoundary) ∧
    (x.state = .armed → exec .jobCancel s = .next (s.answered p r .ok [1, 0]).uartBoundary) ∧
    (x.state = .ready → exec .jobCancel s = .next (State.answered
      { s with jobs := s.jobs.set j.1 { s.job j with rt := { x with state := .armed } } j.2 } p r .ok [1, 0]).uartBoundary) ∧
    (∀ d c, x.state = .suspended → (s.job j).defn = some d → c = channelOf d.target → exec .jobCancel s =
      .next (State.answered { s.cancelledEnding j with
        arbs := s.arbs.set c.1 { s.arb c with slot := none, choiceDue := true } c.2 } p r .ok [1, 0]).uartBoundary) ∧
    (x.state = .running → x.cancel = true → exec .jobCancel s = .next (s.answered p r .ok [3, 1]).uartBoundary) ∧
    (∀ c y t, x.state = .running → x.cancel = false → s.pass? c = some y → y.job = j → channelOf y.defn.target = c →
      t = { s with jobs := s.jobs.set j.1 { s.job j with rt := { x with cancel := true } } j.2 } →
      exec .jobCancel s = .next ((t.carryCancel y).answered p r .ok [3, 1]).uartBoundary)) ∧
  (∀ (s : State) (y : Pass) (e : Engine), e = s.eng y.chan →
    (e.state = .lead ∨ e.state = .shift ∨ e.state = .unitEnd ∨ e.state = .lag → s.carryCancel y = s) ∧
    (e.state = .busyWait → s.carryCancel y = s.enterLag y .cancel) ∧
    (e.state = .gap → s.carryCancel y =
      if e.owed = true then s.setEng y.chan { e with ended := true, interval := 0 } else s.enterLag y .cancel) ∧
    (e.state = .pollWait → s.carryCancel y = s.finishPass y .cancel))

/-! ### Requests on channels, timers and lines -/

/-- CHANNEL_HOLD sets the hold flag, and a release makes a fresh choice due (R128); TIMER_SET replaces the period unless it is 0,
and loads or discards the count (R119); LINE_SET replaces the edge selection (R122). -/
def Obligations.HoldTimerAndLineRequests : Prop :=
  (∀ (s : State) (p : Fin 4) (r : Request) (c : Fin 4) (b : Byte), s.carries 0x30 p r → r.payload = [natByte c.1, b] →
    (2 ≤ b.toNat → exec .channelHold s = .next (s.answered p r .badArg []).uartBoundary) ∧
    (b = 1 → exec .channelHold s = .next (State.answered
      { s with arbs := s.arbs.set c.1 { s.arb c with held := true } c.2 } p r .ok []).uartBoundary) ∧
    (b = 0 → exec .channelHold s = .next (State.answered
      { s with
        arbs := s.arbs.set c.1 { s.arb c with
          held := false, choiceDue := if (s.arb c).held = true then true else (s.arb c).choiceDue } c.2 }
      p r .ok []).uartBoundary)) ∧
  (∀ (s : State) (p : Fin 4) (r : Request) (n : Fin 4) (lo hi b : Byte) (q : Half), s.carries 0x38 p r →
    r.payload = [natByte n.1, lo, hi, b] →
    q = (if lo = 0 ∧ hi = 0 then (s.timer n).period else BitVec.ofNat 16 (lo.toNat + 256 * hi.toNat)) →
    (2 ≤ b.toNat → exec .timerSet s = .next (s.answered p r .badArg []).uartBoundary) ∧
    (b.toNat < 2 → exec .timerSet s = .next (State.answered
      { s with timers := s.timers.set n.1 { period := q, count := if b = 1 then some q.toNat else none } n.2 } p r .ok
      [q.setWidth 8, (q >>> 8).setWidth 8, b]).uartBoundary)) ∧
  (∀ (s : State) (p : Fin 4) (r : Request) (n : Fin 4) (b : Byte), s.carries 0x39 p r → r.payload = [natByte n.1, b] →
    (4 ≤ b.toNat → exec .lineSet s = .next (s.answered p r .badArg []).uartBoundary) ∧
    (∀ e, (b, e) ∈ [((0 : Byte), EdgeSel.off), (1, .rising), (2, .falling), (3, .both)] →
      exec .lineSet s = .next (State.answered
        { s with lines := s.lines.set n.1 { s.line n with sel := e } n.2 } p r .ok [natByte n.1, b]).uartBoundary))

/-- CHANNEL_ABORT stops the engine, halts the RUNNING and the SUSPENDED job with ABORTED and a JOB_FAULT record each, makes each
READY job ARMED, empties the slot and makes a fresh choice due; its answer is as the request found the channel (R176, R177, R181).
A stop stores and counts a received byte whose store waits (R168). An idle UART transmitter makes its choice after both records and
the answer (the model's choice, log entry 32). -/
def Obligations.ChannelAbort : Prop :=
  (∀ (s : State) (p : Fin 4) (r : Request) (c : Fin 4), s.carries 0x31 p r → r.payload = [natByte c.1] →
    exec .channelAbort s = .next ((s.abortChannel c).answered p r .ok
      [jobOrNone (s.runningJob c), jobOrNone (s.arb c).slot, natByte (s.readyQueue c).length]).uartBoundary) ∧
  (∀ (s : State) (c : Fin 4) (u t : State), s.Coherent → u = s.stopEngine c → t = s.abortChannel c →
    (∀ j x, x = (u.job j).rt → t.job j = { u.job j with
      rt := if s.onChannel c j = true ∧ (x.state = .running ∨ x.state = .suspended) then
        { x with pending := false, cancel := false, lastEnding := .fault, lastFault := .aborted, state := .halted }
      else if s.onChannel c j = true ∧ x.state = .ready then { x with state := .armed }
      else x }) ∧
    t.notices = ((s.eng c).job.toList ++ (s.arb c).slot.toList).foldl
      (fun q j => q.hand (.jobFault j c .aborted (u.job j).rt.progress)) s.notices ∧
    t = { u with
      jobs := t.jobs, notices := t.notices, arbs := s.arbs.set c.1 { s.arb c with slot := none, choiceDue := true } c.2 }) ∧
  (∀ (s : State) (c : Fin 4) (e : Engine), e = { Engine.powerOn with
      served := (s.eng c).served, restHigh := (s.eng c).restHigh } →
    ((s.eng c).storeWaiting = none → s.stopEngine c = s.setEng c e) ∧
    (∀ x b, s.pass? c = some x → (s.eng c).storeWaiting = some b → s.stopEngine c = { s.setEng c e with
      mem := s.mem.write (s.storeAddr x) b
      jobs := s.jobs.set x.job.1 { s.job x.job with rt := { (s.job x.job).rt with
        progress := (s.job x.job).rt.progress + 1 } } x.job.2 })) ∧
  (∀ (e : Engine) (b : Byte), e.storeWaiting = some b ↔ ∃ k l, e.asks = List.replicate k .read ++ .store b :: l)

/-! ### Notices -/

/-- A record handed to the queue merges into the record of its kind for its job, where the kinds JOB_DONE and OVERRUN merge;
else it joins at the back where the limits leave room; else it is lost and counted (R185 to R190). -/
def Obligations.HandingANotice : Prop :=
  (∀ (q : NoticeQueue) (l r : List Notice) (j : Fin 64) (e e' : Ending) (m m' b b' : Byte) (p p' : Nat), q.limits →
    q.records = l ++ .jobDone j e m p b :: r →
    q.hand (.jobDone j e' m' p' b') = { q with records := l ++ .jobDone j e' (satInc8 m) p' b' :: r }) ∧
  (∀ (q : NoticeQueue) (l r : List Notice) (j : Fin 64) (i i' : Byte), q.limits → q.records = l ++ .overrun j i :: r →
    q.hand (.overrun j i') = { q with records := l ++ .overrun j (satInc8 i) :: r }) ∧
  (∀ (q : NoticeQueue) (n : Notice),
    (∀ j e m p b, n = .jobDone j e m p b → ∀ e' m' p' b', Notice.jobDone j e' m' p' b' ∉ q.records) →
    (∀ j i, n = .overrun j i → ∀ i', Notice.overrun j i' ∉ q.records) →
    q.hand n = if q.records.length < 32 ∧ (n.merges = true → q.records.countP Notice.merges < 28)
      then { q with records := q.records ++ [n] } else { q with lost := satInc8 q.lost }) ∧
  (∀ n : Notice, n.merges = true ↔ (∃ j e m p b, n = .jobDone j e m p b) ∨ ∃ j i, n = .overrun j i)

/-! ### Triggers from timers and lines -/

/-- TIMER_EXPIRY, the count having reached 0, loads the full period again and triggers the jobs that name the timer (R118); with a
count that a TIMER_SET has loaded or discarded there is no expiry (R119, R120). LINE_EDGE takes the level as seen,
and a change of level that the selection matches triggers the jobs that name the line (R9, R121). Each of them takes one trigger,
in rising job number (R117). An idle UART transmitter makes its choice after all the overruns of the event (the model's choice, log
entry 32). -/
def Obligations.TimerAndLineTriggers : Prop :=
  (∀ (s : State) (n : Fin 4), s.timed = true → (s.timer n).count = some 0 →
    exec (.timerExpiry n) s = .next (State.uartBoundary (State.triggerAll
      { s with timers := s.timers.set n.1 { s.timer n with count := some (s.timer n).period.toNat } n.2 } (.timer n)))) ∧
  (∀ (s : State) (n : Fin 4) (t : Timer) (period : Half) (run : Bool), t.period ≠ 0 → s.timer n = t.set period run →
    exec (.timerExpiry n) s = .next s) ∧
  (∀ (s t : State) (n : Fin 4) (level : Bool), s.timed = true →
    t = { s with lines := s.lines.set n.1 { s.line n with seen := some level } n.2 } →
    ((s.line n).seen = some (!level) →
      (s.line n).sel = .both ∨ ((s.line n).sel = .rising ∧ level = true) ∨ ((s.line n).sel = .falling ∧ level = false) →
      exec (.lineEdge n level) s = .next (t.triggerAll (.line n)).uartBoundary) ∧
    ((s.line n).seen ≠ some (!level) ∨ (s.line n).sel = .off ∨ ((s.line n).sel = .rising ∧ level = false) ∨
      ((s.line n).sel = .falling ∧ level = true) → exec (.lineEdge n level) s = .next t.uartBoundary)) ∧
  (∀ (s : State) (src : TrigSource), ∃ js : List (Fin 64), js.Pairwise (· < ·) ∧
    (∀ j, j ∈ js ↔ ∃ d, (s.job j).defn = some d ∧ d.source = src) ∧ s.triggerAll src = js.foldl State.trigger s ∧
    ∀ j, (s.triggerAll src).job j = if j ∈ js then (s.trigger j).job j else s.job j)

/-! ### The fresh choice -/

/-- FRESH_CHOICE takes nothing while the engine is not IDLE or the channel is held (R125); else the first unblocked URGENT job,
else the suspended job, else the first unblocked NORMAL job (R126). A dispatched job is RUNNING with progress 0 (R92), a resumed
one with its progress kept, its slot empty (R94), and its pass starts at the same event. -/
def Obligations.FreshChoice : Prop :=
  (∀ (s t : State) (c : Fin 4), s.live = true → (s.arb c).choiceDue = true →
    t = { s with arbs := s.arbs.set c.1 { s.arb c with choiceDue := false } c.2 } →
    ((s.eng c).state ≠ .idle ∨ (s.arb c).held = true → exec (.freshChoice c) s = .next t.uartBoundary) ∧
    ((s.eng c).state = .idle → (s.arb c).held = false →
      (∀ j d x, s.firstUnblocked c .urgent = some j ∨ (s.firstUnblocked c .urgent = none ∧ (s.arb c).slot = none ∧
          s.firstUnblocked c .normal = some j) →
        (s.job j).defn = some d → x = { chan := c, job := j, defn := d, prof := s.target d.target } →
        exec (.freshChoice c) s = .next (State.uartBoundary (State.startPass { t with
          jobs := s.jobs.set j.1 { s.job j with rt := { (s.job j).rt with state := .running, progress := 0 } } j.2 } x))) ∧
      (∀ j d x, s.firstUnblocked c .urgent = none → (s.arb c).slot = some j → (s.job j).rt.state = .suspended →
        (s.job j).defn = some d → x = { chan := c, job := j, defn := d, prof := s.target d.target } →
        exec (.freshChoice c) s = .next (State.uartBoundary (State.startPass { s with
          arbs := s.arbs.set c.1 { s.arb c with slot := none, choiceDue := false } c.2
          jobs := s.jobs.set j.1 { s.job j with rt := { (s.job j).rt with state := .running } } j.2 } x))) ∧
      (s.firstUnblocked c .urgent = none → (s.arb c).slot = none → s.firstUnblocked c .normal = none →
        exec (.freshChoice c) s = .next t.uartBoundary))) ∧
  (∀ (s : State) (c : Fin 4) (k : JobClass) (can : Fin 64 → Prop),
    (∀ j, can j ↔ ∃ d, (s.job j).defn = some d ∧ (s.job j).rt.state = .ready ∧ channelOf d.target = c ∧ d.cls = k ∧
      ∀ w, s.claim = some w → ∀ v ∈ passWindows d (s.job j).rt.active, v.overlaps w = false) →
    (∀ j, s.firstUnblocked c k = some j ↔ can j ∧ ∀ i < j, ¬ can i) ∧
    (s.firstUnblocked c k = none ↔ ∀ j, ¬ can j))

/-! ### A pass -/

/-- A pass or an attempt starts (R141, R143, R156, R157): SCKc goes to the target's idle level, 62.5 ns before the assertion if
that is a change; the line is asserted and the lead of lead × 125 ns counted; the first byte is asked for. After the lead a cancel
leads to LAG, else the busy wait follows (R143, R162). That the first byte is asked for at the dispatch is the model's reading (log
entry 20). -/
def Obligations.PassStart : Prop :=
  (∀ (s : State) (x : Pass) (e : Engine) (o : OutByte),
    o = nextOut x.defn (if x.defn.kind = .poll then 0 else (s.job x.job).rt.progress) →
    e = { Engine.powerOn with
      state := .lead, job := some x.job, served := some x.defn.target, restHigh := decide (2 ≤ x.prof.clockMode.1)
      nxt := o, asks := o.asks } →
    s.startPass x = if (s.eng x.chan).restHigh = decide (2 ≤ x.prof.clockMode.1) then (s.setEng x.chan e).assertSelect x
      else s.setEng x.chan { e with asserted := false, interval := 2 }) ∧
  (∀ (s : State) (x : Pass), s.assertSelect x =
    if x.prof.lead = 0
    then (s.setEng x.chan { s.eng x.chan with state := .lead, asserted := true, interval := 0 }).leadDone x
    else s.setEng x.chan { s.eng x.chan with state := .lead, asserted := true, interval := 4 * x.prof.lead.toNat }) ∧
  (∀ (s : State) (x : Pass), s.leadDone x = if (s.job x.job).rt.cancel = true then s.enterLag x .cancel else s.enterBusy x) ∧
  (∀ (s : State) (c : Fin 4) (x : Pass), s.timed = true → s.pass? c = some x → (s.eng c).state = .lead →
    ((s.eng c).asserted = false → exec (.selectAssertion c) s = .next (s.assertSelect x).uartBoundary) ∧
    ((s.eng c).asserted = true → exec (.leadEnd c) s = .next (s.leadDone x).uartBoundary)) ∧
  (∀ (d : JobDef) (k : Nat),
    (d.kind = .send ∨ d.kind = .exchange → nextOut d k = if k < d.winA.len then .waiting k else .empty) ∧
    (d.kind = .receive → nextOut d k = if k < d.winA.len then .held d.fill else .empty) ∧
    (d.kind = .poll → nextOut d k =
      if k < d.winA.len then .waiting k else if k = d.winA.len then .held d.fill else .empty)) ∧
  (∀ (k : Nat) (b : Byte), OutByte.empty.asks = [] ∧ (OutByte.waiting k).asks = [.read] ∧ (OutByte.held b).asks = [])

/-- BUSY_WAIT is passed over with busy mode OFF or a ready level seen (R144); else it counts the timeout. A ready level ends it,
and the timeout ends it in a fault LAG (R144, R145). What follows it: the reply or the command byte of an attempt, LAG COMPLETE
after the last byte, LAG for a suspension at a preemption point, else the next byte (R151, R152). That BUSY_READY and a ready
BUSY_LEVEL_SEEN each end the wait, and that the seen level outlives it, is the model's reading (log entries 14 and 35). -/
def Obligations.BusyWait : Prop :=
  (∀ (s : State) (c : Fin 4) (x : Pass), s.timed = true → s.pass? c = some x → (s.eng c).state = .busyWait →
    exec (.busyReady c) s = .next (State.uartBoundary (State.afterBusy
      { s with busySeen := s.busySeen.set c.1 (some (decide (x.prof.busy = .activeLow))) c.2 } x)) ∧
    exec (.busyTimeout c) s = .next (s.enterLag x (.fault .busyTimeout)).uartBoundary) ∧
  (∀ (s t : State) (c : Fin 4) (high : Bool), s.timed = true →
    t = { s with busySeen := s.busySeen.set c.1 (some high) c.2 } →
    ((s.eng c).state ≠ .busyWait → exec (.busyLevelSeen c high) s = .next t.uartBoundary) ∧
    (∀ x, s.pass? c = some x → (s.eng c).state = .busyWait → exec (.busyLevelSeen c high) s =
      .next (if (x.prof.busy = .activeHigh ∧ high = true) ∨ (x.prof.busy = .activeLow ∧ high = false) then t
        else t.afterBusy x).uartBoundary)) ∧
  (∀ (s : State) (x : Pass), s.enterBusy x =
    if (x.prof.busy = .activeHigh ∧ s.busyLevel x.chan = some true) ∨
        (x.prof.busy = .activeLow ∧ s.busyLevel x.chan = some false)
    then s.setEng x.chan { s.eng x.chan with state := .busyWait, interval := x.prof.timeout.toNat } else s.afterBusy x) ∧
  (∀ (s : State) (x : Pass), s.afterBusy x =
    if x.defn.kind = .poll then s.startShift x
    else if x.defn.winA.len ≤ s.bytesEnded x then s.enterLag x (.passEnd .complete)
    else if x.defn.segment.toNat ≤ (s.eng x.chan).segCount ∧ s.suspensionAsked x = true then s.enterLag x .suspension
    else s.startShift x) ∧
  (∀ (s : State) (x : Pass), s.suspensionAsked x = true ↔ x.defn.cls = .normal ∧ x.defn.segment ≠ 0 ∧
    (s.job x.job).rt.cancel = false ∧ (s.arb x.chan).held = false ∧ s.firstUnblocked x.chan .urgent ≠ none)

/-- The start of a byte: the byte asked for before goes out, the next is asked for, busy is sampled in a unit past its first
byte with the slip check on (R146, R153). The last bit of a byte to be stored asks for its store, and a reply is held (R148, R158).
The end of the eighth period counts the byte in its unit, and in the job unless its store still waits (R148). The model's readings
and choices (log entry 16): LAST_BIT_ARRIVED in clock modes 1 and 3 changes nothing, BYTE_END drops its own bits once
LAST_BIT_ARRIVED has brought them, and `wire` has the bit sampled first in bit 7. A byte that starts before its read has been
granted leaves SDO as it was (the model's choice, log entry 33). -/
def Obligations.ByteEvents : Prop :=
  (∀ (s : State) (x : Pass) (e : Engine) (k : Nat) (o : OutByte), e = s.eng x.chan → k = s.bytesEnded x →
    o = nextOut x.defn (k + 1) → s.startShift x = s.setEng x.chan { e with
      state := .shift, asserted := true, replying := decide (x.defn.kind = .poll ∧ k = x.defn.winA.len), cur := e.nxt
      nxt := o, asks := e.asks ++ o.asks, inByte := none, ended := false
      interval := 16 * (x.prof.divider.toNat + 1)
      slip := decide (x.prof.slipCheck = true ∧ ¬ (x.defn.kind = .poll ∧ k = x.defn.winA.len) ∧ 1 ≤ e.unitPos ∧
        ((x.prof.busy = .activeHigh ∧ s.busyLevel x.chan = some true) ∨
          (x.prof.busy = .activeLow ∧ s.busyLevel x.chan = some false)))
      sdo := match e.nxt with
        | .held b => if x.prof.clockMode.1 % 2 = 0
          then (match x.prof.order with | .msbFirst => b.getLsbD 7 | .lsbFirst => b.getLsbD 0) else e.sdo
        | _ => e.sdo }) ∧
  (∀ (s : State) (c : Fin 4) (x : Pass) (wire b : Byte) (e : Engine) (out : Bool), s.timed = true → s.pass? c = some x →
    e = s.eng c → e.state = .shift → e.ended = false → (∀ k, e.cur ≠ .waiting k) →
    e.inByte ≠ none ∨ e.storeWaiting = none → b = x.prof.order.fromWire wire →
    out = (match e.cur with
      | .held o => (match x.prof.order with | .msbFirst => o.getLsbD 0 | .lsbFirst => o.getLsbD 7)
      | _ => e.sdo) →
    (e.inByte = none → exec (.lastBitArrived c wire) s = .next (State.uartBoundary
      (if x.prof.clockMode.1 % 2 = 1 then s
      else if e.replying = true then s.setEng c { e with inByte := some b }
      else if x.defn.kind = .receive ∨ x.defn.kind = .exchange then
        s.setEng c { e with inByte := some b, asks := e.asks ++ [.store b] }
      else s))) ∧
    (e.replying = true → exec (.byteEnd c wire) s = .next (State.uartBoundary (State.enterAttemptLag
      (s.setEng c { e with sdo := out, inByte := some (e.inByte.getD b) }) x))) ∧
    (e.replying = false → x.defn.kind = .poll → exec (.byteEnd c wire) s = .next (State.uartBoundary (State.afterByte
      (s.setEng c { e with sdo := out, unitPos := e.unitPos + 1, attemptPos := e.attemptPos + 1 }) x))) ∧
    (e.replying = false → x.defn.kind = .send ∨ ((x.defn.kind = .receive ∨ x.defn.kind = .exchange) ∧
        e.inByte ≠ none ∧ e.storeWaiting = none) →
      exec (.byteEnd c wire) s = .next (State.uartBoundary (State.afterByte { s with
        engs := s.engs.set c.1 { e with sdo := out, unitPos := e.unitPos + 1, segCount := e.segCount + 1, owed := false } c.2
        jobs := s.jobs.set x.job.1 { s.job x.job with rt := { (s.job x.job).rt with
          progress := (s.job x.job).rt.progress + 1 } } x.job.2 } x))) ∧
    (e.replying = false → x.defn.kind = .receive ∨ x.defn.kind = .exchange → e.inByte ≠ none → e.storeWaiting ≠ none →
      exec (.byteEnd c wire) s = .next (State.uartBoundary (State.afterByte
        (s.setEng c { e with sdo := out, unitPos := e.unitPos + 1, owed := true }) x))) ∧
    (e.replying = false → x.defn.kind = .receive ∨ x.defn.kind = .exchange → e.inByte = none →
      exec (.byteEnd c wire) s = .next (State.uartBoundary (State.afterByte
        (s.setEng c { e with
          sdo := out, unitPos := e.unitPos + 1, inByte := some b, asks := e.asks ++ [.store b], owed := true }) x)))) ∧
  (∀ (w : Byte) (i : Nat), i < 8 → BitOrder.msbFirst.fromWire w = w ∧
    (BitOrder.lsbFirst.fromWire w).getLsbD i = w.getLsbD (7 - i)) ∧
  (∀ (s : State) (x : Pass) (e : Engine), e = s.eng x.chan → s.bytesEnded x =
    if x.defn.kind = .poll then e.attemptPos
    else if e.owed = true then (s.job x.job).rt.progress + 1 else (s.job x.job).rt.progress)

/-- What follows a byte (R149, R150, R153, R164), once it is stored where its store still waits (R148): a slip fault, the LAG of a
cancel, the gap within a unit, the strobe pulse, or the unit end, which a cancel leads to LAG (R151, R165). -/
def Obligations.AfterAByte : Prop :=
  (∀ (s : State) (x : Pass) (e : Engine) (stay : State), e = s.eng x.chan →
    stay = s.setEng x.chan { e with ended := true, interval := 0 } →
    s.afterByte x =
      if e.slip = true then (if e.owed = true then stay else s.enterLag x (.fault .slip))
      else if (s.job x.job).rt.cancel = true then (if e.owed = true then stay else s.enterLag x .cancel)
      else if e.unitPos < x.prof.unit ∧ s.bytesEnded x < x.defn.winA.len then
        (if x.prof.gap = 0 then s.startShift x else s.setEng x.chan { e with
          state := .gap, ended := false, interval := x.prof.gap.toNat * (2 * (x.prof.divider.toNat + 1)) })
      else if x.prof.strobe = true then s.setEng x.chan { e with
        state := .unitEnd, ended := false, interval := 2 * (x.prof.divider.toNat + 1) }
      else if e.owed = true then stay else s.unitSteps x) ∧
  (∀ (s : State) (x : Pass) (t : State), t = s.setEng x.chan { s.eng x.chan with unitPos := 0, ended := false } →
    s.unitSteps x = if (s.job x.job).rt.cancel = true then t.enterLag x .cancel else t.enterBusy x) ∧
  (∀ (s : State) (x : Pass) (e : Engine), e = s.eng x.chan →
    (e.ended = false → s.afterStore x = s) ∧
    (e.ended = true → e.state = .shift → s.afterStore x =
      if e.slip = true then s.enterLag x (.fault .slip)
      else if (s.job x.job).rt.cancel = true then s.enterLag x .cancel else s.unitSteps x) ∧
    (e.ended = true → e.state = .gap → s.afterStore x = s.enterLag x .cancel) ∧
    (e.ended = true → e.state = .unitEnd → s.afterStore x = s.unitSteps x)) ∧
  (∀ (s : State) (c : Fin 4) (x : Pass), s.timed = true → s.pass? c = some x → (s.eng c).ended = false →
    ((s.eng c).state = .gap → exec (.gapEnd c) s = .next (s.startShift x).uartBoundary) ∧
    ((s.eng c).state = .unitEnd → exec (.unitEndComplete c) s = .next (State.uartBoundary
      (if (s.eng c).owed = true then s.setEng c { s.eng c with ended := true, interval := 0 } else s.unitSteps x))))

/-- LAG counts lag × 125 ns, and a lag of 0 ends at once (R154). At its end the engine is IDLE, keeping its served target and rest
level alone, the ending that the reason and the cancel requested give is applied by R97's table, and a fresh choice is due (R155).
The reason attempt end is settled instead (O60), and the reason cancel stands only with the flag set, as the invariant of O9 says;
what the model does with the two combinations left out here is log entry 25. An idle UART transmitter makes its choice after all
the records of the ending (the model's choice, log entry 32). -/
def Obligations.LagAndHandOver : Prop :=
  (∀ (s : State) (x : Pass) (r : LagReason), s.enterLag x r = if x.prof.lag = 0 then s.finishPass x r
    else s.setEng x.chan { s.eng x.chan with state := .lag, lag := some r, ended := false, interval := 4 * x.prof.lag.toNat }) ∧
  (∀ (s : State) (c : Fin 4) (x : Pass), s.timed = true → s.pass? c = some x → (s.eng c).state = .lag →
    ((s.eng c).lag = some .attemptEnd → exec (.lagEnd c) s = .next (s.settleAttempt x).uartBoundary) ∧
    (∀ r, (s.eng c).lag = some r → r ≠ .attemptEnd → exec (.lagEnd c) s = .next (s.finishPass x r).uartBoundary)) ∧
  (∀ (s t u : State) (x : Pass) (r : LagReason), r ≠ .attemptEnd → (r = .cancel → (s.job x.job).rt.cancel = true) →
    t = s.setEng x.chan { Engine.powerOn with
      served := (s.eng x.chan).served, restHigh := (s.eng x.chan).restHigh } →
    u = (match r, (s.job x.job).rt.cancel with
      | .fault f, _ => t.faultEnding x.job x.defn f
      | .passEnd o, false => t.passEnd x.job x.defn o
      | .suspension, false => t.suspend x.chan x.job
      | _, _ => t.cancelledEnding x.job) →
    s.finishPass x r = { u with arbs := u.arbs.set x.chan.1 { u.arb x.chan with choiceDue := true } x.chan.2 })

/-- The four endings (R94, R98, R100, R102, R169). A COMPLETE or NO_MATCH counts the pass, takes a pending swap, fires its link,
hands JOB_DONE if notify is yes, and leaves the job READY if a trigger is pending, its own link's included, else ARMED. CANCELLED
fires no link; a fault keeps the swap, halts the job, hands JOB_FAULT and then fires the failure link; a suspension keeps all. -/
def Obligations.Endings : Prop :=
  (∀ (s t : State) (j : Fin 64) (d : JobDef) (o : PassOutcome) (e : Ending) (l : Option (Fin 64)) (x : Runtime),
    (s.job j).rt = x → (s.job j).defn = some d → x.state = .running → x.cancel = false → t = s.passEnd j d o →
    (o = .complete ∧ e = .complete ∧ l = d.success) ∨ (o = .noMatch ∧ e = .noMatch ∧ l = d.failure) →
    t.job j = { s.job j with rt := { x with
      passCount := x.passCount + 1, lastEnding := e, swap := false, pending := false
      active := if x.swap = true then x.active.flip else x.active
      overruns := if l = some j ∧ x.pending = true then satInc8 x.overruns else x.overruns
      state := if x.pending = true ∨ l = some j then .ready else .armed } } ∧
    (∀ k, k ≠ j → t.job k = if l = some k then (s.trigger k).job k else s.job k) ∧
    (∀ q, q = (match l with
        | none => s.notices
        | some k => if k = j then (if x.pending = true then s.notices.hand (.overrun j 1) else s.notices)
          else (s.trigger k).notices) →
      t.notices = if d.notify = true then q.hand (.jobDone j e 1 x.progress x.lastPoll) else q) ∧
    (∀ c, (t.arb c).choiceDue = true ↔ (s.arb c).choiceDue = true ∨
      (channelOf d.target = c ∧ (x.pending = true ∨ l = some j)) ∨
      (∃ k m, k ≠ j ∧ l = some k ∧ (s.job k).rt.state = .armed ∧ (s.job k).defn = some m ∧ channelOf m.target = c)) ∧
    (∀ c, (t.arb c).held = (s.arb c).held ∧ (t.arb c).slot = (s.arb c).slot) ∧
    t = { s with jobs := t.jobs, notices := t.notices, arbs := t.arbs }) ∧
  (∀ (s : State) (j : Fin 64) (x : Runtime), x = (s.job j).rt → s.cancelledEnding j = { s with
    jobs := s.jobs.set j.1 { s.job j with rt := { x with
      pending := false, swap := false, active := if x.swap = true then x.active.flip else x.active
      lastEnding := .cancelled, cancel := false, state := .armed } } j.2
    notices := s.notices.hand (.jobDone j .cancelled 1 x.progress x.lastPoll) }) ∧
  (∀ (s t : State) (j : Fin 64) (d : JobDef) (f : JobFault) (x : Runtime), x = (s.job j).rt →
    t = { s with
      jobs := s.jobs.set j.1 { s.job j with rt := { x with
        pending := false, cancel := false, lastEnding := .fault, lastFault := f, state := .halted } } j.2
      notices := s.notices.hand (.jobFault j (channelOf d.target) f x.progress) } →
    s.faultEnding j d f = (match d.failure with | none => t | some k => if k = j then t else t.trigger k)) ∧
  (∀ (s : State) (c : Fin 4) (j : Fin 64), (s.job j).rt.state = .running → s.suspend c j = { s with
    jobs := s.jobs.set j.1 { s.job j with rt := { (s.job j).rt with state := .suspended } } j.2
    arbs := s.arbs.set c.1 { s.arb c with slot := some j } c.2 })

/-- A POLL attempt is settled: counted, its reply kept; COMPLETE on a match, NO_MATCH at the retry limit, CANCELLED under a cancel,
suspended for a waiting URGENT job, else POLL_WAIT for the poll interval (R158, R159, R160). The next attempt starts at once after
an interval of 0, else at POLL_INTERVAL_END. An attempt is only under way with attempts left (R93), as the invariant of O9 says; the
model's test beyond the limit is log entry 25. -/
def Obligations.PollAttempts : Prop :=
  (∀ (s t u : State) (x : Pass) (reply : Byte), (s.eng x.chan).inByte = some reply →
    (s.job x.job).rt.progress < x.defn.retryLimit.toNat →
    t = { s with jobs := s.jobs.set x.job.1 { s.job x.job with rt := { (s.job x.job).rt with
      progress := (s.job x.job).rt.progress + 1, lastPoll := reply } } x.job.2 } →
    u = t.setEng x.chan { Engine.powerOn with
      served := (s.eng x.chan).served, restHigh := (s.eng x.chan).restHigh, state := .pollWait, job := some x.job
      interval := x.defn.interval.toNat } →
    s.settleAttempt x =
      if reply &&& x.defn.pollMask = x.defn.pollMatch then t.finishPass x (.passEnd .complete)
      else if (s.job x.job).rt.progress + 1 = x.defn.retryLimit.toNat then t.finishPass x (.passEnd .noMatch)
      else if (s.job x.job).rt.cancel = true then t.finishPass x .cancel
      else if s.suspensionAsked x = true then t.finishPass x .suspension
      else if x.defn.interval = 0 then t.startPass x else u) ∧
  (∀ (s : State) (x : Pass), s.enterAttemptLag x = if x.prof.lag = 0 then s.settleAttempt x
    else s.setEng x.chan { s.eng x.chan with
      state := .lag, lag := some .attemptEnd, ended := false, interval := 4 * x.prof.lag.toNat }) ∧
  (∀ (s : State) (c : Fin 4) (x : Pass), s.timed = true → s.pass? c = some x → (s.eng c).state = .pollWait →
    exec (.pollIntervalEnd c) s = .next (s.startPass x).uartBoundary) ∧
  (∀ (s : State) (c : Fin 4) (x : Pass), s.pass? c = some x ↔ (s.eng c).job = some x.job ∧ x.chan = c ∧
    (s.job x.job).defn = some x.defn ∧ x.prof = s.target x.defn.target)

end
end

