-- ==== Sys2Proof/Laws/State.lean ====
section
/-! SUPPORT. The small lemmas of State's updates: what each leaves of every field, true by unfolding, and what a record reads
as after a record has been replaced. -/
namespace Sys2Proof.Machine

@[simp] theorem State.setJob_rstnLow (s : State) (j : Fin 64) (x : Job) : (s.setJob j x).rstnLow = s.rstnLow := rfl
@[simp] theorem State.setJob_clock (s : State) (j : Fin 64) (x : Job) : (s.setJob j x).clock = s.clock := rfl
@[simp] theorem State.setJob_phase (s : State) (j : Fin 64) (x : Job) : (s.setJob j x).phase = s.phase := rfl
@[simp] theorem State.setJob_clearPos (s : State) (j : Fin 64) (x : Job) : (s.setJob j x).clearPos = s.clearPos := rfl
@[simp] theorem State.setJob_usPhase (s : State) (j : Fin 64) (x : Job) : (s.setJob j x).usPhase = s.usPhase := rfl
@[simp] theorem State.setJob_straps (s : State) (j : Fin 64) (x : Job) : (s.setJob j x).straps = s.straps := rfl
@[simp] theorem State.setJob_spi (s : State) (j : Fin 64) (x : Job) : (s.setJob j x).spi = s.spi := rfl
@[simp] theorem State.setJob_link (s : State) (j : Fin 64) (x : Job) : (s.setJob j x).link = s.link := rfl
@[simp] theorem State.setJob_interp (s : State) (j : Fin 64) (x : Job) : (s.setJob j x).interp = s.interp := rfl
@[simp] theorem State.setJob_mem (s : State) (j : Fin 64) (x : Job) : (s.setJob j x).mem = s.mem := rfl
@[simp] theorem State.setJob_claim (s : State) (j : Fin 64) (x : Job) : (s.setJob j x).claim = s.claim := rfl
@[simp] theorem State.setJob_rotation (s : State) (j : Fin 64) (x : Job) : (s.setJob j x).rotation = s.rotation := rfl
@[simp] theorem State.setJob_targets (s : State) (j : Fin 64) (x : Job) : (s.setJob j x).targets = s.targets := rfl
@[simp] theorem State.setJob_jobs (s : State) (j : Fin 64) (x : Job) : (s.setJob j x).jobs = s.jobs.set j.1 x j.2 := rfl
@[simp] theorem State.setJob_timers (s : State) (j : Fin 64) (x : Job) : (s.setJob j x).timers = s.timers := rfl
@[simp] theorem State.setJob_lines (s : State) (j : Fin 64) (x : Job) : (s.setJob j x).lines = s.lines := rfl
@[simp] theorem State.setJob_busySeen (s : State) (j : Fin 64) (x : Job) : (s.setJob j x).busySeen = s.busySeen := rfl
@[simp] theorem State.setJob_arbs (s : State) (j : Fin 64) (x : Job) : (s.setJob j x).arbs = s.arbs := rfl
@[simp] theorem State.setJob_engs (s : State) (j : Fin 64) (x : Job) : (s.setJob j x).engs = s.engs := rfl
@[simp] theorem State.setJob_notices (s : State) (j : Fin 64) (x : Job) : (s.setJob j x).notices = s.notices := rfl
@[simp] theorem State.setJob_pending (s : State) (j : Fin 64) (x : Job) : (s.setJob j x).pending = s.pending := rfl

@[simp] theorem State.setEng_rstnLow (s : State) (c : Fin 4) (x : Engine) : (s.setEng c x).rstnLow = s.rstnLow := rfl
@[simp] theorem State.setEng_clock (s : State) (c : Fin 4) (x : Engine) : (s.setEng c x).clock = s.clock := rfl
@[simp] theorem State.setEng_phase (s : State) (c : Fin 4) (x : Engine) : (s.setEng c x).phase = s.phase := rfl
@[simp] theorem State.setEng_clearPos (s : State) (c : Fin 4) (x : Engine) : (s.setEng c x).clearPos = s.clearPos := rfl
@[simp] theorem State.setEng_usPhase (s : State) (c : Fin 4) (x : Engine) : (s.setEng c x).usPhase = s.usPhase := rfl
@[simp] theorem State.setEng_straps (s : State) (c : Fin 4) (x : Engine) : (s.setEng c x).straps = s.straps := rfl
@[simp] theorem State.setEng_spi (s : State) (c : Fin 4) (x : Engine) : (s.setEng c x).spi = s.spi := rfl
@[simp] theorem State.setEng_link (s : State) (c : Fin 4) (x : Engine) : (s.setEng c x).link = s.link := rfl
@[simp] theorem State.setEng_interp (s : State) (c : Fin 4) (x : Engine) : (s.setEng c x).interp = s.interp := rfl
@[simp] theorem State.setEng_mem (s : State) (c : Fin 4) (x : Engine) : (s.setEng c x).mem = s.mem := rfl
@[simp] theorem State.setEng_claim (s : State) (c : Fin 4) (x : Engine) : (s.setEng c x).claim = s.claim := rfl
@[simp] theorem State.setEng_rotation (s : State) (c : Fin 4) (x : Engine) : (s.setEng c x).rotation = s.rotation := rfl
@[simp] theorem State.setEng_targets (s : State) (c : Fin 4) (x : Engine) : (s.setEng c x).targets = s.targets := rfl
@[simp] theorem State.setEng_jobs (s : State) (c : Fin 4) (x : Engine) : (s.setEng c x).jobs = s.jobs := rfl
@[simp] theorem State.setEng_timers (s : State) (c : Fin 4) (x : Engine) : (s.setEng c x).timers = s.timers := rfl
@[simp] theorem State.setEng_lines (s : State) (c : Fin 4) (x : Engine) : (s.setEng c x).lines = s.lines := rfl
@[simp] theorem State.setEng_busySeen (s : State) (c : Fin 4) (x : Engine) : (s.setEng c x).busySeen = s.busySeen := rfl
@[simp] theorem State.setEng_arbs (s : State) (c : Fin 4) (x : Engine) : (s.setEng c x).arbs = s.arbs := rfl
@[simp] theorem State.setEng_engs (s : State) (c : Fin 4) (x : Engine) : (s.setEng c x).engs = s.engs.set c.1 x c.2 := rfl
@[simp] theorem State.setEng_notices (s : State) (c : Fin 4) (x : Engine) : (s.setEng c x).notices = s.notices := rfl
@[simp] theorem State.setEng_pending (s : State) (c : Fin 4) (x : Engine) : (s.setEng c x).pending = s.pending := rfl

@[simp] theorem State.setArb_rstnLow (s : State) (c : Fin 4) (x : Arbiter) : (s.setArb c x).rstnLow = s.rstnLow := rfl
@[simp] theorem State.setArb_clock (s : State) (c : Fin 4) (x : Arbiter) : (s.setArb c x).clock = s.clock := rfl
@[simp] theorem State.setArb_phase (s : State) (c : Fin 4) (x : Arbiter) : (s.setArb c x).phase = s.phase := rfl
@[simp] theorem State.setArb_clearPos (s : State) (c : Fin 4) (x : Arbiter) : (s.setArb c x).clearPos = s.clearPos := rfl
@[simp] theorem State.setArb_usPhase (s : State) (c : Fin 4) (x : Arbiter) : (s.setArb c x).usPhase = s.usPhase := rfl
@[simp] theorem State.setArb_straps (s : State) (c : Fin 4) (x : Arbiter) : (s.setArb c x).straps = s.straps := rfl
@[simp] theorem State.setArb_spi (s : State) (c : Fin 4) (x : Arbiter) : (s.setArb c x).spi = s.spi := rfl
@[simp] theorem State.setArb_link (s : State) (c : Fin 4) (x : Arbiter) : (s.setArb c x).link = s.link := rfl
@[simp] theorem State.setArb_interp (s : State) (c : Fin 4) (x : Arbiter) : (s.setArb c x).interp = s.interp := rfl
@[simp] theorem State.setArb_mem (s : State) (c : Fin 4) (x : Arbiter) : (s.setArb c x).mem = s.mem := rfl
@[simp] theorem State.setArb_claim (s : State) (c : Fin 4) (x : Arbiter) : (s.setArb c x).claim = s.claim := rfl
@[simp] theorem State.setArb_rotation (s : State) (c : Fin 4) (x : Arbiter) : (s.setArb c x).rotation = s.rotation := rfl
@[simp] theorem State.setArb_targets (s : State) (c : Fin 4) (x : Arbiter) : (s.setArb c x).targets = s.targets := rfl
@[simp] theorem State.setArb_jobs (s : State) (c : Fin 4) (x : Arbiter) : (s.setArb c x).jobs = s.jobs := rfl
@[simp] theorem State.setArb_timers (s : State) (c : Fin 4) (x : Arbiter) : (s.setArb c x).timers = s.timers := rfl
@[simp] theorem State.setArb_lines (s : State) (c : Fin 4) (x : Arbiter) : (s.setArb c x).lines = s.lines := rfl
@[simp] theorem State.setArb_busySeen (s : State) (c : Fin 4) (x : Arbiter) : (s.setArb c x).busySeen = s.busySeen := rfl
@[simp] theorem State.setArb_arbs (s : State) (c : Fin 4) (x : Arbiter) : (s.setArb c x).arbs = s.arbs.set c.1 x c.2 := rfl
@[simp] theorem State.setArb_engs (s : State) (c : Fin 4) (x : Arbiter) : (s.setArb c x).engs = s.engs := rfl
@[simp] theorem State.setArb_notices (s : State) (c : Fin 4) (x : Arbiter) : (s.setArb c x).notices = s.notices := rfl
@[simp] theorem State.setArb_pending (s : State) (c : Fin 4) (x : Arbiter) : (s.setArb c x).pending = s.pending := rfl

@[simp] theorem State.setTarget_rstnLow (s : State) (n : Fin 16) (x : Profile) : (s.setTarget n x).rstnLow = s.rstnLow := rfl
@[simp] theorem State.setTarget_clock (s : State) (n : Fin 16) (x : Profile) : (s.setTarget n x).clock = s.clock := rfl
@[simp] theorem State.setTarget_phase (s : State) (n : Fin 16) (x : Profile) : (s.setTarget n x).phase = s.phase := rfl
@[simp] theorem State.setTarget_clearPos (s : State) (n : Fin 16) (x : Profile) : (s.setTarget n x).clearPos = s.clearPos := rfl
@[simp] theorem State.setTarget_usPhase (s : State) (n : Fin 16) (x : Profile) : (s.setTarget n x).usPhase = s.usPhase := rfl
@[simp] theorem State.setTarget_straps (s : State) (n : Fin 16) (x : Profile) : (s.setTarget n x).straps = s.straps := rfl
@[simp] theorem State.setTarget_spi (s : State) (n : Fin 16) (x : Profile) : (s.setTarget n x).spi = s.spi := rfl
@[simp] theorem State.setTarget_link (s : State) (n : Fin 16) (x : Profile) : (s.setTarget n x).link = s.link := rfl
@[simp] theorem State.setTarget_interp (s : State) (n : Fin 16) (x : Profile) : (s.setTarget n x).interp = s.interp := rfl
@[simp] theorem State.setTarget_mem (s : State) (n : Fin 16) (x : Profile) : (s.setTarget n x).mem = s.mem := rfl
@[simp] theorem State.setTarget_claim (s : State) (n : Fin 16) (x : Profile) : (s.setTarget n x).claim = s.claim := rfl
@[simp] theorem State.setTarget_rotation (s : State) (n : Fin 16) (x : Profile) : (s.setTarget n x).rotation = s.rotation := rfl
@[simp] theorem State.setTarget_targets (s : State) (n : Fin 16) (x : Profile) : (s.setTarget n x).targets = s.targets.set n.1 x n.2 := rfl
@[simp] theorem State.setTarget_jobs (s : State) (n : Fin 16) (x : Profile) : (s.setTarget n x).jobs = s.jobs := rfl
@[simp] theorem State.setTarget_timers (s : State) (n : Fin 16) (x : Profile) : (s.setTarget n x).timers = s.timers := rfl
@[simp] theorem State.setTarget_lines (s : State) (n : Fin 16) (x : Profile) : (s.setTarget n x).lines = s.lines := rfl
@[simp] theorem State.setTarget_busySeen (s : State) (n : Fin 16) (x : Profile) : (s.setTarget n x).busySeen = s.busySeen := rfl
@[simp] theorem State.setTarget_arbs (s : State) (n : Fin 16) (x : Profile) : (s.setTarget n x).arbs = s.arbs := rfl
@[simp] theorem State.setTarget_engs (s : State) (n : Fin 16) (x : Profile) : (s.setTarget n x).engs = s.engs := rfl
@[simp] theorem State.setTarget_notices (s : State) (n : Fin 16) (x : Profile) : (s.setTarget n x).notices = s.notices := rfl
@[simp] theorem State.setTarget_pending (s : State) (n : Fin 16) (x : Profile) : (s.setTarget n x).pending = s.pending := rfl

@[simp] theorem State.setTimer_rstnLow (s : State) (n : Fin 4) (x : Timer) : (s.setTimer n x).rstnLow = s.rstnLow := rfl
@[simp] theorem State.setTimer_clock (s : State) (n : Fin 4) (x : Timer) : (s.setTimer n x).clock = s.clock := rfl
@[simp] theorem State.setTimer_phase (s : State) (n : Fin 4) (x : Timer) : (s.setTimer n x).phase = s.phase := rfl
@[simp] theorem State.setTimer_clearPos (s : State) (n : Fin 4) (x : Timer) : (s.setTimer n x).clearPos = s.clearPos := rfl
@[simp] theorem State.setTimer_usPhase (s : State) (n : Fin 4) (x : Timer) : (s.setTimer n x).usPhase = s.usPhase := rfl
@[simp] theorem State.setTimer_straps (s : State) (n : Fin 4) (x : Timer) : (s.setTimer n x).straps = s.straps := rfl
@[simp] theorem State.setTimer_spi (s : State) (n : Fin 4) (x : Timer) : (s.setTimer n x).spi = s.spi := rfl
@[simp] theorem State.setTimer_link (s : State) (n : Fin 4) (x : Timer) : (s.setTimer n x).link = s.link := rfl
@[simp] theorem State.setTimer_interp (s : State) (n : Fin 4) (x : Timer) : (s.setTimer n x).interp = s.interp := rfl
@[simp] theorem State.setTimer_mem (s : State) (n : Fin 4) (x : Timer) : (s.setTimer n x).mem = s.mem := rfl
@[simp] theorem State.setTimer_claim (s : State) (n : Fin 4) (x : Timer) : (s.setTimer n x).claim = s.claim := rfl
@[simp] theorem State.setTimer_rotation (s : State) (n : Fin 4) (x : Timer) : (s.setTimer n x).rotation = s.rotation := rfl
@[simp] theorem State.setTimer_targets (s : State) (n : Fin 4) (x : Timer) : (s.setTimer n x).targets = s.targets := rfl
@[simp] theorem State.setTimer_jobs (s : State) (n : Fin 4) (x : Timer) : (s.setTimer n x).jobs = s.jobs := rfl
@[simp] theorem State.setTimer_timers (s : State) (n : Fin 4) (x : Timer) : (s.setTimer n x).timers = s.timers.set n.1 x n.2 := rfl
@[simp] theorem State.setTimer_lines (s : State) (n : Fin 4) (x : Timer) : (s.setTimer n x).lines = s.lines := rfl
@[simp] theorem State.setTimer_busySeen (s : State) (n : Fin 4) (x : Timer) : (s.setTimer n x).busySeen = s.busySeen := rfl
@[simp] theorem State.setTimer_arbs (s : State) (n : Fin 4) (x : Timer) : (s.setTimer n x).arbs = s.arbs := rfl
@[simp] theorem State.setTimer_engs (s : State) (n : Fin 4) (x : Timer) : (s.setTimer n x).engs = s.engs := rfl
@[simp] theorem State.setTimer_notices (s : State) (n : Fin 4) (x : Timer) : (s.setTimer n x).notices = s.notices := rfl
@[simp] theorem State.setTimer_pending (s : State) (n : Fin 4) (x : Timer) : (s.setTimer n x).pending = s.pending := rfl

@[simp] theorem State.setLine_rstnLow (s : State) (n : Fin 4) (x : Line) : (s.setLine n x).rstnLow = s.rstnLow := rfl
@[simp] theorem State.setLine_clock (s : State) (n : Fin 4) (x : Line) : (s.setLine n x).clock = s.clock := rfl
@[simp] theorem State.setLine_phase (s : State) (n : Fin 4) (x : Line) : (s.setLine n x).phase = s.phase := rfl
@[simp] theorem State.setLine_clearPos (s : State) (n : Fin 4) (x : Line) : (s.setLine n x).clearPos = s.clearPos := rfl
@[simp] theorem State.setLine_usPhase (s : State) (n : Fin 4) (x : Line) : (s.setLine n x).usPhase = s.usPhase := rfl
@[simp] theorem State.setLine_straps (s : State) (n : Fin 4) (x : Line) : (s.setLine n x).straps = s.straps := rfl
@[simp] theorem State.setLine_spi (s : State) (n : Fin 4) (x : Line) : (s.setLine n x).spi = s.spi := rfl
@[simp] theorem State.setLine_link (s : State) (n : Fin 4) (x : Line) : (s.setLine n x).link = s.link := rfl
@[simp] theorem State.setLine_interp (s : State) (n : Fin 4) (x : Line) : (s.setLine n x).interp = s.interp := rfl
@[simp] theorem State.setLine_mem (s : State) (n : Fin 4) (x : Line) : (s.setLine n x).mem = s.mem := rfl
@[simp] theorem State.setLine_claim (s : State) (n : Fin 4) (x : Line) : (s.setLine n x).claim = s.claim := rfl
@[simp] theorem State.setLine_rotation (s : State) (n : Fin 4) (x : Line) : (s.setLine n x).rotation = s.rotation := rfl
@[simp] theorem State.setLine_targets (s : State) (n : Fin 4) (x : Line) : (s.setLine n x).targets = s.targets := rfl
@[simp] theorem State.setLine_jobs (s : State) (n : Fin 4) (x : Line) : (s.setLine n x).jobs = s.jobs := rfl
@[simp] theorem State.setLine_timers (s : State) (n : Fin 4) (x : Line) : (s.setLine n x).timers = s.timers := rfl
@[simp] theorem State.setLine_lines (s : State) (n : Fin 4) (x : Line) : (s.setLine n x).lines = s.lines.set n.1 x n.2 := rfl
@[simp] theorem State.setLine_busySeen (s : State) (n : Fin 4) (x : Line) : (s.setLine n x).busySeen = s.busySeen := rfl
@[simp] theorem State.setLine_arbs (s : State) (n : Fin 4) (x : Line) : (s.setLine n x).arbs = s.arbs := rfl
@[simp] theorem State.setLine_engs (s : State) (n : Fin 4) (x : Line) : (s.setLine n x).engs = s.engs := rfl
@[simp] theorem State.setLine_notices (s : State) (n : Fin 4) (x : Line) : (s.setLine n x).notices = s.notices := rfl
@[simp] theorem State.setLine_pending (s : State) (n : Fin 4) (x : Line) : (s.setLine n x).pending = s.pending := rfl

@[simp] theorem State.setBusyLevel_rstnLow (s : State) (c : Fin 4) (b : Bool) : (s.setBusyLevel c b).rstnLow = s.rstnLow := rfl
@[simp] theorem State.setBusyLevel_clock (s : State) (c : Fin 4) (b : Bool) : (s.setBusyLevel c b).clock = s.clock := rfl
@[simp] theorem State.setBusyLevel_phase (s : State) (c : Fin 4) (b : Bool) : (s.setBusyLevel c b).phase = s.phase := rfl
@[simp] theorem State.setBusyLevel_clearPos (s : State) (c : Fin 4) (b : Bool) : (s.setBusyLevel c b).clearPos = s.clearPos := rfl
@[simp] theorem State.setBusyLevel_usPhase (s : State) (c : Fin 4) (b : Bool) : (s.setBusyLevel c b).usPhase = s.usPhase := rfl
@[simp] theorem State.setBusyLevel_straps (s : State) (c : Fin 4) (b : Bool) : (s.setBusyLevel c b).straps = s.straps := rfl
@[simp] theorem State.setBusyLevel_spi (s : State) (c : Fin 4) (b : Bool) : (s.setBusyLevel c b).spi = s.spi := rfl
@[simp] theorem State.setBusyLevel_link (s : State) (c : Fin 4) (b : Bool) : (s.setBusyLevel c b).link = s.link := rfl
@[simp] theorem State.setBusyLevel_interp (s : State) (c : Fin 4) (b : Bool) : (s.setBusyLevel c b).interp = s.interp := rfl
@[simp] theorem State.setBusyLevel_mem (s : State) (c : Fin 4) (b : Bool) : (s.setBusyLevel c b).mem = s.mem := rfl
@[simp] theorem State.setBusyLevel_claim (s : State) (c : Fin 4) (b : Bool) : (s.setBusyLevel c b).claim = s.claim := rfl
@[simp] theorem State.setBusyLevel_rotation (s : State) (c : Fin 4) (b : Bool) : (s.setBusyLevel c b).rotation = s.rotation := rfl
@[simp] theorem State.setBusyLevel_targets (s : State) (c : Fin 4) (b : Bool) : (s.setBusyLevel c b).targets = s.targets := rfl
@[simp] theorem State.setBusyLevel_jobs (s : State) (c : Fin 4) (b : Bool) : (s.setBusyLevel c b).jobs = s.jobs := rfl
@[simp] theorem State.setBusyLevel_timers (s : State) (c : Fin 4) (b : Bool) : (s.setBusyLevel c b).timers = s.timers := rfl
@[simp] theorem State.setBusyLevel_lines (s : State) (c : Fin 4) (b : Bool) : (s.setBusyLevel c b).lines = s.lines := rfl
@[simp] theorem State.setBusyLevel_busySeen (s : State) (c : Fin 4) (b : Bool) : (s.setBusyLevel c b).busySeen = s.busySeen.set c.1 (some b) c.2 := rfl
@[simp] theorem State.setBusyLevel_arbs (s : State) (c : Fin 4) (b : Bool) : (s.setBusyLevel c b).arbs = s.arbs := rfl
@[simp] theorem State.setBusyLevel_engs (s : State) (c : Fin 4) (b : Bool) : (s.setBusyLevel c b).engs = s.engs := rfl
@[simp] theorem State.setBusyLevel_notices (s : State) (c : Fin 4) (b : Bool) : (s.setBusyLevel c b).notices = s.notices := rfl
@[simp] theorem State.setBusyLevel_pending (s : State) (c : Fin 4) (b : Bool) : (s.setBusyLevel c b).pending = s.pending := rfl

@[simp] theorem State.setPlace_rstnLow (s : State) (p : Fin 4) (x : Place) : (s.setPlace p x).rstnLow = s.rstnLow := rfl
@[simp] theorem State.setPlace_clock (s : State) (p : Fin 4) (x : Place) : (s.setPlace p x).clock = s.clock := rfl
@[simp] theorem State.setPlace_phase (s : State) (p : Fin 4) (x : Place) : (s.setPlace p x).phase = s.phase := rfl
@[simp] theorem State.setPlace_clearPos (s : State) (p : Fin 4) (x : Place) : (s.setPlace p x).clearPos = s.clearPos := rfl
@[simp] theorem State.setPlace_usPhase (s : State) (p : Fin 4) (x : Place) : (s.setPlace p x).usPhase = s.usPhase := rfl
@[simp] theorem State.setPlace_straps (s : State) (p : Fin 4) (x : Place) : (s.setPlace p x).straps = s.straps := rfl
@[simp] theorem State.setPlace_spi (s : State) (p : Fin 4) (x : Place) : (s.setPlace p x).spi = s.spi := rfl
@[simp] theorem State.setPlace_link (s : State) (p : Fin 4) (x : Place) : (s.setPlace p x).link = { s.link with places := s.link.places.set p.1 x p.2 } := rfl
@[simp] theorem State.setPlace_interp (s : State) (p : Fin 4) (x : Place) : (s.setPlace p x).interp = s.interp := rfl
@[simp] theorem State.setPlace_mem (s : State) (p : Fin 4) (x : Place) : (s.setPlace p x).mem = s.mem := rfl
@[simp] theorem State.setPlace_claim (s : State) (p : Fin 4) (x : Place) : (s.setPlace p x).claim = s.claim := rfl
@[simp] theorem State.setPlace_rotation (s : State) (p : Fin 4) (x : Place) : (s.setPlace p x).rotation = s.rotation := rfl
@[simp] theorem State.setPlace_targets (s : State) (p : Fin 4) (x : Place) : (s.setPlace p x).targets = s.targets := rfl
@[simp] theorem State.setPlace_jobs (s : State) (p : Fin 4) (x : Place) : (s.setPlace p x).jobs = s.jobs := rfl
@[simp] theorem State.setPlace_timers (s : State) (p : Fin 4) (x : Place) : (s.setPlace p x).timers = s.timers := rfl
@[simp] theorem State.setPlace_lines (s : State) (p : Fin 4) (x : Place) : (s.setPlace p x).lines = s.lines := rfl
@[simp] theorem State.setPlace_busySeen (s : State) (p : Fin 4) (x : Place) : (s.setPlace p x).busySeen = s.busySeen := rfl
@[simp] theorem State.setPlace_arbs (s : State) (p : Fin 4) (x : Place) : (s.setPlace p x).arbs = s.arbs := rfl
@[simp] theorem State.setPlace_engs (s : State) (p : Fin 4) (x : Place) : (s.setPlace p x).engs = s.engs := rfl
@[simp] theorem State.setPlace_notices (s : State) (p : Fin 4) (x : Place) : (s.setPlace p x).notices = s.notices := rfl
@[simp] theorem State.setPlace_pending (s : State) (p : Fin 4) (x : Place) : (s.setPlace p x).pending = s.pending := rfl

@[simp] theorem State.setRx_rstnLow (s : State) (r : Receiver) : (s.setRx r).rstnLow = s.rstnLow := rfl
@[simp] theorem State.setRx_clock (s : State) (r : Receiver) : (s.setRx r).clock = s.clock := rfl
@[simp] theorem State.setRx_phase (s : State) (r : Receiver) : (s.setRx r).phase = s.phase := rfl
@[simp] theorem State.setRx_clearPos (s : State) (r : Receiver) : (s.setRx r).clearPos = s.clearPos := rfl
@[simp] theorem State.setRx_usPhase (s : State) (r : Receiver) : (s.setRx r).usPhase = s.usPhase := rfl
@[simp] theorem State.setRx_straps (s : State) (r : Receiver) : (s.setRx r).straps = s.straps := rfl
@[simp] theorem State.setRx_spi (s : State) (r : Receiver) : (s.setRx r).spi = s.spi := rfl
@[simp] theorem State.setRx_link (s : State) (r : Receiver) : (s.setRx r).link = { s.link with rx := r } := rfl
@[simp] theorem State.setRx_interp (s : State) (r : Receiver) : (s.setRx r).interp = s.interp := rfl
@[simp] theorem State.setRx_mem (s : State) (r : Receiver) : (s.setRx r).mem = s.mem := rfl
@[simp] theorem State.setRx_claim (s : State) (r : Receiver) : (s.setRx r).claim = s.claim := rfl
@[simp] theorem State.setRx_rotation (s : State) (r : Receiver) : (s.setRx r).rotation = s.rotation := rfl
@[simp] theorem State.setRx_targets (s : State) (r : Receiver) : (s.setRx r).targets = s.targets := rfl
@[simp] theorem State.setRx_jobs (s : State) (r : Receiver) : (s.setRx r).jobs = s.jobs := rfl
@[simp] theorem State.setRx_timers (s : State) (r : Receiver) : (s.setRx r).timers = s.timers := rfl
@[simp] theorem State.setRx_lines (s : State) (r : Receiver) : (s.setRx r).lines = s.lines := rfl
@[simp] theorem State.setRx_busySeen (s : State) (r : Receiver) : (s.setRx r).busySeen = s.busySeen := rfl
@[simp] theorem State.setRx_arbs (s : State) (r : Receiver) : (s.setRx r).arbs = s.arbs := rfl
@[simp] theorem State.setRx_engs (s : State) (r : Receiver) : (s.setRx r).engs = s.engs := rfl
@[simp] theorem State.setRx_notices (s : State) (r : Receiver) : (s.setRx r).notices = s.notices := rfl
@[simp] theorem State.setRx_pending (s : State) (r : Receiver) : (s.setRx r).pending = s.pending := rfl

@[simp] theorem State.setInterp_rstnLow (s : State) (i : Interp) : (s.setInterp i).rstnLow = s.rstnLow := rfl
@[simp] theorem State.setInterp_clock (s : State) (i : Interp) : (s.setInterp i).clock = s.clock := rfl
@[simp] theorem State.setInterp_phase (s : State) (i : Interp) : (s.setInterp i).phase = s.phase := rfl
@[simp] theorem State.setInterp_clearPos (s : State) (i : Interp) : (s.setInterp i).clearPos = s.clearPos := rfl
@[simp] theorem State.setInterp_usPhase (s : State) (i : Interp) : (s.setInterp i).usPhase = s.usPhase := rfl
@[simp] theorem State.setInterp_straps (s : State) (i : Interp) : (s.setInterp i).straps = s.straps := rfl
@[simp] theorem State.setInterp_spi (s : State) (i : Interp) : (s.setInterp i).spi = s.spi := rfl
@[simp] theorem State.setInterp_link (s : State) (i : Interp) : (s.setInterp i).link = s.link := rfl
@[simp] theorem State.setInterp_interp (s : State) (i : Interp) : (s.setInterp i).interp = i := rfl
@[simp] theorem State.setInterp_mem (s : State) (i : Interp) : (s.setInterp i).mem = s.mem := rfl
@[simp] theorem State.setInterp_claim (s : State) (i : Interp) : (s.setInterp i).claim = s.claim := rfl
@[simp] theorem State.setInterp_rotation (s : State) (i : Interp) : (s.setInterp i).rotation = s.rotation := rfl
@[simp] theorem State.setInterp_targets (s : State) (i : Interp) : (s.setInterp i).targets = s.targets := rfl
@[simp] theorem State.setInterp_jobs (s : State) (i : Interp) : (s.setInterp i).jobs = s.jobs := rfl
@[simp] theorem State.setInterp_timers (s : State) (i : Interp) : (s.setInterp i).timers = s.timers := rfl
@[simp] theorem State.setInterp_lines (s : State) (i : Interp) : (s.setInterp i).lines = s.lines := rfl
@[simp] theorem State.setInterp_busySeen (s : State) (i : Interp) : (s.setInterp i).busySeen = s.busySeen := rfl
@[simp] theorem State.setInterp_arbs (s : State) (i : Interp) : (s.setInterp i).arbs = s.arbs := rfl
@[simp] theorem State.setInterp_engs (s : State) (i : Interp) : (s.setInterp i).engs = s.engs := rfl
@[simp] theorem State.setInterp_notices (s : State) (i : Interp) : (s.setInterp i).notices = s.notices := rfl
@[simp] theorem State.setInterp_pending (s : State) (i : Interp) : (s.setInterp i).pending = s.pending := rfl

@[simp] theorem State.setMem_rstnLow (s : State) (m : Memory) : (s.setMem m).rstnLow = s.rstnLow := rfl
@[simp] theorem State.setMem_clock (s : State) (m : Memory) : (s.setMem m).clock = s.clock := rfl
@[simp] theorem State.setMem_phase (s : State) (m : Memory) : (s.setMem m).phase = s.phase := rfl
@[simp] theorem State.setMem_clearPos (s : State) (m : Memory) : (s.setMem m).clearPos = s.clearPos := rfl
@[simp] theorem State.setMem_usPhase (s : State) (m : Memory) : (s.setMem m).usPhase = s.usPhase := rfl
@[simp] theorem State.setMem_straps (s : State) (m : Memory) : (s.setMem m).straps = s.straps := rfl
@[simp] theorem State.setMem_spi (s : State) (m : Memory) : (s.setMem m).spi = s.spi := rfl
@[simp] theorem State.setMem_link (s : State) (m : Memory) : (s.setMem m).link = s.link := rfl
@[simp] theorem State.setMem_interp (s : State) (m : Memory) : (s.setMem m).interp = s.interp := rfl
@[simp] theorem State.setMem_mem (s : State) (m : Memory) : (s.setMem m).mem = m := rfl
@[simp] theorem State.setMem_claim (s : State) (m : Memory) : (s.setMem m).claim = s.claim := rfl
@[simp] theorem State.setMem_rotation (s : State) (m : Memory) : (s.setMem m).rotation = s.rotation := rfl
@[simp] theorem State.setMem_targets (s : State) (m : Memory) : (s.setMem m).targets = s.targets := rfl
@[simp] theorem State.setMem_jobs (s : State) (m : Memory) : (s.setMem m).jobs = s.jobs := rfl
@[simp] theorem State.setMem_timers (s : State) (m : Memory) : (s.setMem m).timers = s.timers := rfl
@[simp] theorem State.setMem_lines (s : State) (m : Memory) : (s.setMem m).lines = s.lines := rfl
@[simp] theorem State.setMem_busySeen (s : State) (m : Memory) : (s.setMem m).busySeen = s.busySeen := rfl
@[simp] theorem State.setMem_arbs (s : State) (m : Memory) : (s.setMem m).arbs = s.arbs := rfl
@[simp] theorem State.setMem_engs (s : State) (m : Memory) : (s.setMem m).engs = s.engs := rfl
@[simp] theorem State.setMem_notices (s : State) (m : Memory) : (s.setMem m).notices = s.notices := rfl
@[simp] theorem State.setMem_pending (s : State) (m : Memory) : (s.setMem m).pending = s.pending := rfl

@[simp] theorem State.setNotices_rstnLow (s : State) (q : NoticeQueue) : (s.setNotices q).rstnLow = s.rstnLow := rfl
@[simp] theorem State.setNotices_clock (s : State) (q : NoticeQueue) : (s.setNotices q).clock = s.clock := rfl
@[simp] theorem State.setNotices_phase (s : State) (q : NoticeQueue) : (s.setNotices q).phase = s.phase := rfl
@[simp] theorem State.setNotices_clearPos (s : State) (q : NoticeQueue) : (s.setNotices q).clearPos = s.clearPos := rfl
@[simp] theorem State.setNotices_usPhase (s : State) (q : NoticeQueue) : (s.setNotices q).usPhase = s.usPhase := rfl
@[simp] theorem State.setNotices_straps (s : State) (q : NoticeQueue) : (s.setNotices q).straps = s.straps := rfl
@[simp] theorem State.setNotices_spi (s : State) (q : NoticeQueue) : (s.setNotices q).spi = s.spi := rfl
@[simp] theorem State.setNotices_link (s : State) (q : NoticeQueue) : (s.setNotices q).link = s.link := rfl
@[simp] theorem State.setNotices_interp (s : State) (q : NoticeQueue) : (s.setNotices q).interp = s.interp := rfl
@[simp] theorem State.setNotices_mem (s : State) (q : NoticeQueue) : (s.setNotices q).mem = s.mem := rfl
@[simp] theorem State.setNotices_claim (s : State) (q : NoticeQueue) : (s.setNotices q).claim = s.claim := rfl
@[simp] theorem State.setNotices_rotation (s : State) (q : NoticeQueue) : (s.setNotices q).rotation = s.rotation := rfl
@[simp] theorem State.setNotices_targets (s : State) (q : NoticeQueue) : (s.setNotices q).targets = s.targets := rfl
@[simp] theorem State.setNotices_jobs (s : State) (q : NoticeQueue) : (s.setNotices q).jobs = s.jobs := rfl
@[simp] theorem State.setNotices_timers (s : State) (q : NoticeQueue) : (s.setNotices q).timers = s.timers := rfl
@[simp] theorem State.setNotices_lines (s : State) (q : NoticeQueue) : (s.setNotices q).lines = s.lines := rfl
@[simp] theorem State.setNotices_busySeen (s : State) (q : NoticeQueue) : (s.setNotices q).busySeen = s.busySeen := rfl
@[simp] theorem State.setNotices_arbs (s : State) (q : NoticeQueue) : (s.setNotices q).arbs = s.arbs := rfl
@[simp] theorem State.setNotices_engs (s : State) (q : NoticeQueue) : (s.setNotices q).engs = s.engs := rfl
@[simp] theorem State.setNotices_notices (s : State) (q : NoticeQueue) : (s.setNotices q).notices = q := rfl
@[simp] theorem State.setNotices_pending (s : State) (q : NoticeQueue) : (s.setNotices q).pending = s.pending := rfl

@[simp] theorem State.setRt_rstnLow (s : State) (j : Fin 64) (r : Runtime) : (s.setRt j r).rstnLow = s.rstnLow := rfl
@[simp] theorem State.setRt_clock (s : State) (j : Fin 64) (r : Runtime) : (s.setRt j r).clock = s.clock := rfl
@[simp] theorem State.setRt_phase (s : State) (j : Fin 64) (r : Runtime) : (s.setRt j r).phase = s.phase := rfl
@[simp] theorem State.setRt_clearPos (s : State) (j : Fin 64) (r : Runtime) : (s.setRt j r).clearPos = s.clearPos := rfl
@[simp] theorem State.setRt_usPhase (s : State) (j : Fin 64) (r : Runtime) : (s.setRt j r).usPhase = s.usPhase := rfl
@[simp] theorem State.setRt_straps (s : State) (j : Fin 64) (r : Runtime) : (s.setRt j r).straps = s.straps := rfl
@[simp] theorem State.setRt_spi (s : State) (j : Fin 64) (r : Runtime) : (s.setRt j r).spi = s.spi := rfl
@[simp] theorem State.setRt_link (s : State) (j : Fin 64) (r : Runtime) : (s.setRt j r).link = s.link := rfl
@[simp] theorem State.setRt_interp (s : State) (j : Fin 64) (r : Runtime) : (s.setRt j r).interp = s.interp := rfl
@[simp] theorem State.setRt_mem (s : State) (j : Fin 64) (r : Runtime) : (s.setRt j r).mem = s.mem := rfl
@[simp] theorem State.setRt_claim (s : State) (j : Fin 64) (r : Runtime) : (s.setRt j r).claim = s.claim := rfl
@[simp] theorem State.setRt_rotation (s : State) (j : Fin 64) (r : Runtime) : (s.setRt j r).rotation = s.rotation := rfl
@[simp] theorem State.setRt_targets (s : State) (j : Fin 64) (r : Runtime) : (s.setRt j r).targets = s.targets := rfl
@[simp] theorem State.setRt_jobs (s : State) (j : Fin 64) (r : Runtime) : (s.setRt j r).jobs = s.jobs.set j.1 { s.job j with rt := r } j.2 := rfl
@[simp] theorem State.setRt_timers (s : State) (j : Fin 64) (r : Runtime) : (s.setRt j r).timers = s.timers := rfl
@[simp] theorem State.setRt_lines (s : State) (j : Fin 64) (r : Runtime) : (s.setRt j r).lines = s.lines := rfl
@[simp] theorem State.setRt_busySeen (s : State) (j : Fin 64) (r : Runtime) : (s.setRt j r).busySeen = s.busySeen := rfl
@[simp] theorem State.setRt_arbs (s : State) (j : Fin 64) (r : Runtime) : (s.setRt j r).arbs = s.arbs := rfl
@[simp] theorem State.setRt_engs (s : State) (j : Fin 64) (r : Runtime) : (s.setRt j r).engs = s.engs := rfl
@[simp] theorem State.setRt_notices (s : State) (j : Fin 64) (r : Runtime) : (s.setRt j r).notices = s.notices := rfl
@[simp] theorem State.setRt_pending (s : State) (j : Fin 64) (r : Runtime) : (s.setRt j r).pending = s.pending := rfl

@[simp] theorem State.hand_rstnLow (s : State) (n : Notice) : (s.hand n).rstnLow = s.rstnLow := rfl
@[simp] theorem State.hand_clock (s : State) (n : Notice) : (s.hand n).clock = s.clock := rfl
@[simp] theorem State.hand_phase (s : State) (n : Notice) : (s.hand n).phase = s.phase := rfl
@[simp] theorem State.hand_clearPos (s : State) (n : Notice) : (s.hand n).clearPos = s.clearPos := rfl
@[simp] theorem State.hand_usPhase (s : State) (n : Notice) : (s.hand n).usPhase = s.usPhase := rfl
@[simp] theorem State.hand_straps (s : State) (n : Notice) : (s.hand n).straps = s.straps := rfl
@[simp] theorem State.hand_spi (s : State) (n : Notice) : (s.hand n).spi = s.spi := rfl
@[simp] theorem State.hand_link (s : State) (n : Notice) : (s.hand n).link = s.link := rfl
@[simp] theorem State.hand_interp (s : State) (n : Notice) : (s.hand n).interp = s.interp := rfl
@[simp] theorem State.hand_mem (s : State) (n : Notice) : (s.hand n).mem = s.mem := rfl
@[simp] theorem State.hand_claim (s : State) (n : Notice) : (s.hand n).claim = s.claim := rfl
@[simp] theorem State.hand_rotation (s : State) (n : Notice) : (s.hand n).rotation = s.rotation := rfl
@[simp] theorem State.hand_targets (s : State) (n : Notice) : (s.hand n).targets = s.targets := rfl
@[simp] theorem State.hand_jobs (s : State) (n : Notice) : (s.hand n).jobs = s.jobs := rfl
@[simp] theorem State.hand_timers (s : State) (n : Notice) : (s.hand n).timers = s.timers := rfl
@[simp] theorem State.hand_lines (s : State) (n : Notice) : (s.hand n).lines = s.lines := rfl
@[simp] theorem State.hand_busySeen (s : State) (n : Notice) : (s.hand n).busySeen = s.busySeen := rfl
@[simp] theorem State.hand_arbs (s : State) (n : Notice) : (s.hand n).arbs = s.arbs := rfl
@[simp] theorem State.hand_engs (s : State) (n : Notice) : (s.hand n).engs = s.engs := rfl
@[simp] theorem State.hand_notices (s : State) (n : Notice) : (s.hand n).notices = s.notices.hand n := rfl
@[simp] theorem State.hand_pending (s : State) (n : Notice) : (s.hand n).pending = s.pending := rfl

@[simp] theorem State.choiceDue_rstnLow (s : State) (c : Fin 4) : (s.choiceDue c).rstnLow = s.rstnLow := rfl
@[simp] theorem State.choiceDue_clock (s : State) (c : Fin 4) : (s.choiceDue c).clock = s.clock := rfl
@[simp] theorem State.choiceDue_phase (s : State) (c : Fin 4) : (s.choiceDue c).phase = s.phase := rfl
@[simp] theorem State.choiceDue_clearPos (s : State) (c : Fin 4) : (s.choiceDue c).clearPos = s.clearPos := rfl
@[simp] theorem State.choiceDue_usPhase (s : State) (c : Fin 4) : (s.choiceDue c).usPhase = s.usPhase := rfl
@[simp] theorem State.choiceDue_straps (s : State) (c : Fin 4) : (s.choiceDue c).straps = s.straps := rfl
@[simp] theorem State.choiceDue_spi (s : State) (c : Fin 4) : (s.choiceDue c).spi = s.spi := rfl
@[simp] theorem State.choiceDue_link (s : State) (c : Fin 4) : (s.choiceDue c).link = s.link := rfl
@[simp] theorem State.choiceDue_interp (s : State) (c : Fin 4) : (s.choiceDue c).interp = s.interp := rfl
@[simp] theorem State.choiceDue_mem (s : State) (c : Fin 4) : (s.choiceDue c).mem = s.mem := rfl
@[simp] theorem State.choiceDue_claim (s : State) (c : Fin 4) : (s.choiceDue c).claim = s.claim := rfl
@[simp] theorem State.choiceDue_rotation (s : State) (c : Fin 4) : (s.choiceDue c).rotation = s.rotation := rfl
@[simp] theorem State.choiceDue_targets (s : State) (c : Fin 4) : (s.choiceDue c).targets = s.targets := rfl
@[simp] theorem State.choiceDue_jobs (s : State) (c : Fin 4) : (s.choiceDue c).jobs = s.jobs := rfl
@[simp] theorem State.choiceDue_timers (s : State) (c : Fin 4) : (s.choiceDue c).timers = s.timers := rfl
@[simp] theorem State.choiceDue_lines (s : State) (c : Fin 4) : (s.choiceDue c).lines = s.lines := rfl
@[simp] theorem State.choiceDue_busySeen (s : State) (c : Fin 4) : (s.choiceDue c).busySeen = s.busySeen := rfl
@[simp] theorem State.choiceDue_arbs (s : State) (c : Fin 4) : (s.choiceDue c).arbs = s.arbs.set c.1 { s.arb c with choiceDue := true } c.2 := rfl
@[simp] theorem State.choiceDue_engs (s : State) (c : Fin 4) : (s.choiceDue c).engs = s.engs := rfl
@[simp] theorem State.choiceDue_notices (s : State) (c : Fin 4) : (s.choiceDue c).notices = s.notices := rfl
@[simp] theorem State.choiceDue_pending (s : State) (c : Fin 4) : (s.choiceDue c).pending = s.pending := rfl

/-! ### Records after an update -/

theorem State.job_setJob (s : State) (i k : Fin 64) (x : Job) :
    (s.setJob i x).job k = if i = k then x else s.job k := by
  simp [State.job, State.setJob, Vector.getElem_set, Fin.ext_iff]

@[simp] theorem State.job_setJob_self (s : State) (i : Fin 64) (x : Job) : (s.setJob i x).job i = x := by
  simp [State.job_setJob]

theorem State.job_setJob_ne (s : State) {i k : Fin 64} (h : i ≠ k) (x : Job) : (s.setJob i x).job k = s.job k := by
  simp [State.job_setJob, h]

theorem State.eng_setEng (s : State) (i k : Fin 4) (x : Engine) :
    (s.setEng i x).eng k = if i = k then x else s.eng k := by
  simp [State.eng, State.setEng, Vector.getElem_set, Fin.ext_iff]

@[simp] theorem State.eng_setEng_self (s : State) (i : Fin 4) (x : Engine) : (s.setEng i x).eng i = x := by
  simp [State.eng_setEng]

theorem State.eng_setEng_ne (s : State) {i k : Fin 4} (h : i ≠ k) (x : Engine) : (s.setEng i x).eng k = s.eng k := by
  simp [State.eng_setEng, h]

theorem State.arb_setArb (s : State) (i k : Fin 4) (x : Arbiter) :
    (s.setArb i x).arb k = if i = k then x else s.arb k := by
  simp [State.arb, State.setArb, Vector.getElem_set, Fin.ext_iff]

@[simp] theorem State.arb_setArb_self (s : State) (i : Fin 4) (x : Arbiter) : (s.setArb i x).arb i = x := by
  simp [State.arb_setArb]

theorem State.arb_setArb_ne (s : State) {i k : Fin 4} (h : i ≠ k) (x : Arbiter) : (s.setArb i x).arb k = s.arb k := by
  simp [State.arb_setArb, h]

theorem State.target_setTarget (s : State) (i k : Fin 16) (x : Profile) :
    (s.setTarget i x).target k = if i = k then x else s.target k := by
  simp [State.target, State.setTarget, Vector.getElem_set, Fin.ext_iff]

@[simp] theorem State.target_setTarget_self (s : State) (i : Fin 16) (x : Profile) : (s.setTarget i x).target i = x := by
  simp [State.target_setTarget]

theorem State.target_setTarget_ne (s : State) {i k : Fin 16} (h : i ≠ k) (x : Profile) : (s.setTarget i x).target k = s.target k := by
  simp [State.target_setTarget, h]

theorem State.timer_setTimer (s : State) (i k : Fin 4) (x : Timer) :
    (s.setTimer i x).timer k = if i = k then x else s.timer k := by
  simp [State.timer, State.setTimer, Vector.getElem_set, Fin.ext_iff]

@[simp] theorem State.timer_setTimer_self (s : State) (i : Fin 4) (x : Timer) : (s.setTimer i x).timer i = x := by
  simp [State.timer_setTimer]

theorem State.timer_setTimer_ne (s : State) {i k : Fin 4} (h : i ≠ k) (x : Timer) : (s.setTimer i x).timer k = s.timer k := by
  simp [State.timer_setTimer, h]

theorem State.line_setLine (s : State) (i k : Fin 4) (x : Line) :
    (s.setLine i x).line k = if i = k then x else s.line k := by
  simp [State.line, State.setLine, Vector.getElem_set, Fin.ext_iff]

@[simp] theorem State.line_setLine_self (s : State) (i : Fin 4) (x : Line) : (s.setLine i x).line i = x := by
  simp [State.line_setLine]

theorem State.line_setLine_ne (s : State) {i k : Fin 4} (h : i ≠ k) (x : Line) : (s.setLine i x).line k = s.line k := by
  simp [State.line_setLine, h]

theorem State.place_setPlace (s : State) (i k : Fin 4) (x : Place) :
    (s.setPlace i x).place k = if i = k then x else s.place k := by
  simp [State.place, State.setPlace, Vector.getElem_set, Fin.ext_iff]

@[simp] theorem State.place_setPlace_self (s : State) (i : Fin 4) (x : Place) : (s.setPlace i x).place i = x := by
  simp [State.place_setPlace]

theorem State.place_setPlace_ne (s : State) {i k : Fin 4} (h : i ≠ k) (x : Place) : (s.setPlace i x).place k = s.place k := by
  simp [State.place_setPlace, h]

theorem State.busyLevel_setBusyLevel (s : State) (i k : Fin 4) (b : Bool) :
    (s.setBusyLevel i b).busyLevel k = if i = k then some b else s.busyLevel k := by
  simp [State.busyLevel, State.setBusyLevel, Vector.getElem_set, Fin.ext_iff]

theorem State.job_setRt (s : State) (i k : Fin 64) (r : Runtime) :
    (s.setRt i r).job k = if i = k then { s.job i with rt := r } else s.job k := by
  simp [State.setRt, State.job_setJob]

@[simp] theorem State.job_setRt_self (s : State) (i : Fin 64) (r : Runtime) :
    (s.setRt i r).job i = { s.job i with rt := r } := by
  simp [State.setRt]

theorem State.job_setRt_ne (s : State) {i k : Fin 64} (h : i ≠ k) (r : Runtime) : (s.setRt i r).job k = s.job k := by
  simp [State.job_setRt, h]

/-- Replacing the runtime part leaves every definition as it was. -/
@[simp] theorem State.defn_setRt (s : State) (i k : Fin 64) (r : Runtime) : ((s.setRt i r).job k).defn = (s.job k).defn := by
  rw [State.job_setRt]; split
  · subst_vars; rfl
  · rfl

/-! ### Records of another kind are left as they were -/

@[simp] theorem State.eng_setJob (s : State) (j : Fin 64) (x : Job) (k : Fin 4) : (s.setJob j x).eng k = s.eng k := rfl
@[simp] theorem State.arb_setJob (s : State) (j : Fin 64) (x : Job) (k : Fin 4) : (s.setJob j x).arb k = s.arb k := rfl
@[simp] theorem State.target_setJob (s : State) (j : Fin 64) (x : Job) (k : Fin 16) : (s.setJob j x).target k = s.target k := rfl
@[simp] theorem State.timer_setJob (s : State) (j : Fin 64) (x : Job) (k : Fin 4) : (s.setJob j x).timer k = s.timer k := rfl
@[simp] theorem State.line_setJob (s : State) (j : Fin 64) (x : Job) (k : Fin 4) : (s.setJob j x).line k = s.line k := rfl
@[simp] theorem State.place_setJob (s : State) (j : Fin 64) (x : Job) (k : Fin 4) : (s.setJob j x).place k = s.place k := rfl
@[simp] theorem State.busyLevel_setJob (s : State) (j : Fin 64) (x : Job) (k : Fin 4) : (s.setJob j x).busyLevel k = s.busyLevel k := rfl
@[simp] theorem State.job_setEng (s : State) (c : Fin 4) (x : Engine) (k : Fin 64) : (s.setEng c x).job k = s.job k := rfl
@[simp] theorem State.arb_setEng (s : State) (c : Fin 4) (x : Engine) (k : Fin 4) : (s.setEng c x).arb k = s.arb k := rfl
@[simp] theorem State.target_setEng (s : State) (c : Fin 4) (x : Engine) (k : Fin 16) : (s.setEng c x).target k = s.target k := rfl
@[simp] theorem State.timer_setEng (s : State) (c : Fin 4) (x : Engine) (k : Fin 4) : (s.setEng c x).timer k = s.timer k := rfl
@[simp] theorem State.line_setEng (s : State) (c : Fin 4) (x : Engine) (k : Fin 4) : (s.setEng c x).line k = s.line k := rfl
@[simp] theorem State.place_setEng (s : State) (c : Fin 4) (x : Engine) (k : Fin 4) : (s.setEng c x).place k = s.place k := rfl
@[simp] theorem State.busyLevel_setEng (s : State) (c : Fin 4) (x : Engine) (k : Fin 4) : (s.setEng c x).busyLevel k = s.busyLevel k := rfl
@[simp] theorem State.job_setArb (s : State) (c : Fin 4) (x : Arbiter) (k : Fin 64) : (s.setArb c x).job k = s.job k := rfl
@[simp] theorem State.eng_setArb (s : State) (c : Fin 4) (x : Arbiter) (k : Fin 4) : (s.setArb c x).eng k = s.eng k := rfl
@[simp] theorem State.target_setArb (s : State) (c : Fin 4) (x : Arbiter) (k : Fin 16) : (s.setArb c x).target k = s.target k := rfl
@[simp] theorem State.timer_setArb (s : State) (c : Fin 4) (x : Arbiter) (k : Fin 4) : (s.setArb c x).timer k = s.timer k := rfl
@[simp] theorem State.line_setArb (s : State) (c : Fin 4) (x : Arbiter) (k : Fin 4) : (s.setArb c x).line k = s.line k := rfl
@[simp] theorem State.place_setArb (s : State) (c : Fin 4) (x : Arbiter) (k : Fin 4) : (s.setArb c x).place k = s.place k := rfl
@[simp] theorem State.busyLevel_setArb (s : State) (c : Fin 4) (x : Arbiter) (k : Fin 4) : (s.setArb c x).busyLevel k = s.busyLevel k := rfl
@[simp] theorem State.job_setTarget (s : State) (n : Fin 16) (x : Profile) (k : Fin 64) : (s.setTarget n x).job k = s.job k := rfl
@[simp] theorem State.eng_setTarget (s : State) (n : Fin 16) (x : Profile) (k : Fin 4) : (s.setTarget n x).eng k = s.eng k := rfl
@[simp] theorem State.arb_setTarget (s : State) (n : Fin 16) (x : Profile) (k : Fin 4) : (s.setTarget n x).arb k = s.arb k := rfl
@[simp] theorem State.timer_setTarget (s : State) (n : Fin 16) (x : Profile) (k : Fin 4) : (s.setTarget n x).timer k = s.timer k := rfl
@[simp] theorem State.line_setTarget (s : State) (n : Fin 16) (x : Profile) (k : Fin 4) : (s.setTarget n x).line k = s.line k := rfl
@[simp] theorem State.place_setTarget (s : State) (n : Fin 16) (x : Profile) (k : Fin 4) : (s.setTarget n x).place k = s.place k := rfl
@[simp] theorem State.busyLevel_setTarget (s : State) (n : Fin 16) (x : Profile) (k : Fin 4) : (s.setTarget n x).busyLevel k = s.busyLevel k := rfl
@[simp] theorem State.job_setTimer (s : State) (n : Fin 4) (x : Timer) (k : Fin 64) : (s.setTimer n x).job k = s.job k := rfl
@[simp] theorem State.eng_setTimer (s : State) (n : Fin 4) (x : Timer) (k : Fin 4) : (s.setTimer n x).eng k = s.eng k := rfl
@[simp] theorem State.arb_setTimer (s : State) (n : Fin 4) (x : Timer) (k : Fin 4) : (s.setTimer n x).arb k = s.arb k := rfl
@[simp] theorem State.target_setTimer (s : State) (n : Fin 4) (x : Timer) (k : Fin 16) : (s.setTimer n x).target k = s.target k := rfl
@[simp] theorem State.line_setTimer (s : State) (n : Fin 4) (x : Timer) (k : Fin 4) : (s.setTimer n x).line k = s.line k := rfl
@[simp] theorem State.place_setTimer (s : State) (n : Fin 4) (x : Timer) (k : Fin 4) : (s.setTimer n x).place k = s.place k := rfl
@[simp] theorem State.busyLevel_setTimer (s : State) (n : Fin 4) (x : Timer) (k : Fin 4) : (s.setTimer n x).busyLevel k = s.busyLevel k := rfl
@[simp] theorem State.job_setLine (s : State) (n : Fin 4) (x : Line) (k : Fin 64) : (s.setLine n x).job k = s.job k := rfl
@[simp] theorem State.eng_setLine (s : State) (n : Fin 4) (x : Line) (k : Fin 4) : (s.setLine n x).eng k = s.eng k := rfl
@[simp] theorem State.arb_setLine (s : State) (n : Fin 4) (x : Line) (k : Fin 4) : (s.setLine n x).arb k = s.arb k := rfl
@[simp] theorem State.target_setLine (s : State) (n : Fin 4) (x : Line) (k : Fin 16) : (s.setLine n x).target k = s.target k := rfl
@[simp] theorem State.timer_setLine (s : State) (n : Fin 4) (x : Line) (k : Fin 4) : (s.setLine n x).timer k = s.timer k := rfl
@[simp] theorem State.place_setLine (s : State) (n : Fin 4) (x : Line) (k : Fin 4) : (s.setLine n x).place k = s.place k := rfl
@[simp] theorem State.busyLevel_setLine (s : State) (n : Fin 4) (x : Line) (k : Fin 4) : (s.setLine n x).busyLevel k = s.busyLevel k := rfl
@[simp] theorem State.job_setBusyLevel (s : State) (c : Fin 4) (b : Bool) (k : Fin 64) : (s.setBusyLevel c b).job k = s.job k := rfl
@[simp] theorem State.eng_setBusyLevel (s : State) (c : Fin 4) (b : Bool) (k : Fin 4) : (s.setBusyLevel c b).eng k = s.eng k := rfl
@[simp] theorem State.arb_setBusyLevel (s : State) (c : Fin 4) (b : Bool) (k : Fin 4) : (s.setBusyLevel c b).arb k = s.arb k := rfl
@[simp] theorem State.target_setBusyLevel (s : State) (c : Fin 4) (b : Bool) (k : Fin 16) : (s.setBusyLevel c b).target k = s.target k := rfl
@[simp] theorem State.timer_setBusyLevel (s : State) (c : Fin 4) (b : Bool) (k : Fin 4) : (s.setBusyLevel c b).timer k = s.timer k := rfl
@[simp] theorem State.line_setBusyLevel (s : State) (c : Fin 4) (b : Bool) (k : Fin 4) : (s.setBusyLevel c b).line k = s.line k := rfl
@[simp] theorem State.place_setBusyLevel (s : State) (c : Fin 4) (b : Bool) (k : Fin 4) : (s.setBusyLevel c b).place k = s.place k := rfl
@[simp] theorem State.job_setPlace (s : State) (p : Fin 4) (x : Place) (k : Fin 64) : (s.setPlace p x).job k = s.job k := rfl
@[simp] theorem State.eng_setPlace (s : State) (p : Fin 4) (x : Place) (k : Fin 4) : (s.setPlace p x).eng k = s.eng k := rfl
@[simp] theorem State.arb_setPlace (s : State) (p : Fin 4) (x : Place) (k : Fin 4) : (s.setPlace p x).arb k = s.arb k := rfl
@[simp] theorem State.target_setPlace (s : State) (p : Fin 4) (x : Place) (k : Fin 16) : (s.setPlace p x).target k = s.target k := rfl
@[simp] theorem State.timer_setPlace (s : State) (p : Fin 4) (x : Place) (k : Fin 4) : (s.setPlace p x).timer k = s.timer k := rfl
@[simp] theorem State.line_setPlace (s : State) (p : Fin 4) (x : Place) (k : Fin 4) : (s.setPlace p x).line k = s.line k := rfl
@[simp] theorem State.busyLevel_setPlace (s : State) (p : Fin 4) (x : Place) (k : Fin 4) : (s.setPlace p x).busyLevel k = s.busyLevel k := rfl
@[simp] theorem State.job_setRx (s : State) (r : Receiver) (k : Fin 64) : (s.setRx r).job k = s.job k := rfl
@[simp] theorem State.eng_setRx (s : State) (r : Receiver) (k : Fin 4) : (s.setRx r).eng k = s.eng k := rfl
@[simp] theorem State.arb_setRx (s : State) (r : Receiver) (k : Fin 4) : (s.setRx r).arb k = s.arb k := rfl
@[simp] theorem State.target_setRx (s : State) (r : Receiver) (k : Fin 16) : (s.setRx r).target k = s.target k := rfl
@[simp] theorem State.timer_setRx (s : State) (r : Receiver) (k : Fin 4) : (s.setRx r).timer k = s.timer k := rfl
@[simp] theorem State.line_setRx (s : State) (r : Receiver) (k : Fin 4) : (s.setRx r).line k = s.line k := rfl
@[simp] theorem State.place_setRx (s : State) (r : Receiver) (k : Fin 4) : (s.setRx r).place k = s.place k := rfl
@[simp] theorem State.busyLevel_setRx (s : State) (r : Receiver) (k : Fin 4) : (s.setRx r).busyLevel k = s.busyLevel k := rfl
@[simp] theorem State.job_setInterp (s : State) (i : Interp) (k : Fin 64) : (s.setInterp i).job k = s.job k := rfl
@[simp] theorem State.eng_setInterp (s : State) (i : Interp) (k : Fin 4) : (s.setInterp i).eng k = s.eng k := rfl
@[simp] theorem State.arb_setInterp (s : State) (i : Interp) (k : Fin 4) : (s.setInterp i).arb k = s.arb k := rfl
@[simp] theorem State.target_setInterp (s : State) (i : Interp) (k : Fin 16) : (s.setInterp i).target k = s.target k := rfl
@[simp] theorem State.timer_setInterp (s : State) (i : Interp) (k : Fin 4) : (s.setInterp i).timer k = s.timer k := rfl
@[simp] theorem State.line_setInterp (s : State) (i : Interp) (k : Fin 4) : (s.setInterp i).line k = s.line k := rfl
@[simp] theorem State.place_setInterp (s : State) (i : Interp) (k : Fin 4) : (s.setInterp i).place k = s.place k := rfl
@[simp] theorem State.busyLevel_setInterp (s : State) (i : Interp) (k : Fin 4) : (s.setInterp i).busyLevel k = s.busyLevel k := rfl
@[simp] theorem State.job_setMem (s : State) (m : Memory) (k : Fin 64) : (s.setMem m).job k = s.job k := rfl
@[simp] theorem State.eng_setMem (s : State) (m : Memory) (k : Fin 4) : (s.setMem m).eng k = s.eng k := rfl
@[simp] theorem State.arb_setMem (s : State) (m : Memory) (k : Fin 4) : (s.setMem m).arb k = s.arb k := rfl
@[simp] theorem State.target_setMem (s : State) (m : Memory) (k : Fin 16) : (s.setMem m).target k = s.target k := rfl
@[simp] theorem State.timer_setMem (s : State) (m : Memory) (k : Fin 4) : (s.setMem m).timer k = s.timer k := rfl
@[simp] theorem State.line_setMem (s : State) (m : Memory) (k : Fin 4) : (s.setMem m).line k = s.line k := rfl
@[simp] theorem State.place_setMem (s : State) (m : Memory) (k : Fin 4) : (s.setMem m).place k = s.place k := rfl
@[simp] theorem State.busyLevel_setMem (s : State) (m : Memory) (k : Fin 4) : (s.setMem m).busyLevel k = s.busyLevel k := rfl
@[simp] theorem State.job_setNotices (s : State) (q : NoticeQueue) (k : Fin 64) : (s.setNotices q).job k = s.job k := rfl
@[simp] theorem State.eng_setNotices (s : State) (q : NoticeQueue) (k : Fin 4) : (s.setNotices q).eng k = s.eng k := rfl
@[simp] theorem State.arb_setNotices (s : State) (q : NoticeQueue) (k : Fin 4) : (s.setNotices q).arb k = s.arb k := rfl
@[simp] theorem State.target_setNotices (s : State) (q : NoticeQueue) (k : Fin 16) : (s.setNotices q).target k = s.target k := rfl
@[simp] theorem State.timer_setNotices (s : State) (q : NoticeQueue) (k : Fin 4) : (s.setNotices q).timer k = s.timer k := rfl
@[simp] theorem State.line_setNotices (s : State) (q : NoticeQueue) (k : Fin 4) : (s.setNotices q).line k = s.line k := rfl
@[simp] theorem State.place_setNotices (s : State) (q : NoticeQueue) (k : Fin 4) : (s.setNotices q).place k = s.place k := rfl
@[simp] theorem State.busyLevel_setNotices (s : State) (q : NoticeQueue) (k : Fin 4) : (s.setNotices q).busyLevel k = s.busyLevel k := rfl
@[simp] theorem State.eng_setRt (s : State) (j : Fin 64) (r : Runtime) (k : Fin 4) : (s.setRt j r).eng k = s.eng k := rfl
@[simp] theorem State.arb_setRt (s : State) (j : Fin 64) (r : Runtime) (k : Fin 4) : (s.setRt j r).arb k = s.arb k := rfl
@[simp] theorem State.target_setRt (s : State) (j : Fin 64) (r : Runtime) (k : Fin 16) : (s.setRt j r).target k = s.target k := rfl
@[simp] theorem State.timer_setRt (s : State) (j : Fin 64) (r : Runtime) (k : Fin 4) : (s.setRt j r).timer k = s.timer k := rfl
@[simp] theorem State.line_setRt (s : State) (j : Fin 64) (r : Runtime) (k : Fin 4) : (s.setRt j r).line k = s.line k := rfl
@[simp] theorem State.place_setRt (s : State) (j : Fin 64) (r : Runtime) (k : Fin 4) : (s.setRt j r).place k = s.place k := rfl
@[simp] theorem State.busyLevel_setRt (s : State) (j : Fin 64) (r : Runtime) (k : Fin 4) : (s.setRt j r).busyLevel k = s.busyLevel k := rfl
@[simp] theorem State.job_hand (s : State) (n : Notice) (k : Fin 64) : (s.hand n).job k = s.job k := rfl
@[simp] theorem State.eng_hand (s : State) (n : Notice) (k : Fin 4) : (s.hand n).eng k = s.eng k := rfl
@[simp] theorem State.arb_hand (s : State) (n : Notice) (k : Fin 4) : (s.hand n).arb k = s.arb k := rfl
@[simp] theorem State.target_hand (s : State) (n : Notice) (k : Fin 16) : (s.hand n).target k = s.target k := rfl
@[simp] theorem State.timer_hand (s : State) (n : Notice) (k : Fin 4) : (s.hand n).timer k = s.timer k := rfl
@[simp] theorem State.line_hand (s : State) (n : Notice) (k : Fin 4) : (s.hand n).line k = s.line k := rfl
@[simp] theorem State.place_hand (s : State) (n : Notice) (k : Fin 4) : (s.hand n).place k = s.place k := rfl
@[simp] theorem State.busyLevel_hand (s : State) (n : Notice) (k : Fin 4) : (s.hand n).busyLevel k = s.busyLevel k := rfl
@[simp] theorem State.job_choiceDue (s : State) (c : Fin 4) (k : Fin 64) : (s.choiceDue c).job k = s.job k := rfl
@[simp] theorem State.eng_choiceDue (s : State) (c : Fin 4) (k : Fin 4) : (s.choiceDue c).eng k = s.eng k := rfl
@[simp] theorem State.target_choiceDue (s : State) (c : Fin 4) (k : Fin 16) : (s.choiceDue c).target k = s.target k := rfl
@[simp] theorem State.timer_choiceDue (s : State) (c : Fin 4) (k : Fin 4) : (s.choiceDue c).timer k = s.timer k := rfl
@[simp] theorem State.line_choiceDue (s : State) (c : Fin 4) (k : Fin 4) : (s.choiceDue c).line k = s.line k := rfl
@[simp] theorem State.place_choiceDue (s : State) (c : Fin 4) (k : Fin 4) : (s.choiceDue c).place k = s.place k := rfl
@[simp] theorem State.busyLevel_choiceDue (s : State) (c : Fin 4) (k : Fin 4) : (s.choiceDue c).busyLevel k = s.busyLevel k := rfl

/-! ### A record replaced twice -/

@[simp] theorem State.setEng_setEng (s : State) (c : Fin 4) (x y : Engine) : (s.setEng c x).setEng c y = s.setEng c y := by
  simp [State.setEng]
@[simp] theorem State.setArb_setArb (s : State) (c : Fin 4) (x y : Arbiter) : (s.setArb c x).setArb c y = s.setArb c y := by
  simp [State.setArb]
@[simp] theorem State.setJob_setJob (s : State) (j : Fin 64) (x y : Job) : (s.setJob j x).setJob j y = s.setJob j y := by
  simp [State.setJob]
@[simp] theorem State.setRt_setRt (s : State) (j : Fin 64) (x y : Runtime) : (s.setRt j x).setRt j y = s.setRt j y := by
  simp [State.setRt, State.setJob, State.job]

end Sys2Proof.Machine
end

