-- ==== Sys2Proof/Laws/Ops.lean ====
section
/-! SUPPORT. Buffer memory and the notice queue: what a read gives after a write, and what every operation on them keeps. -/
namespace Sys2Proof.Machine

/-! ### Counts -/

theorem satInc8_toNat (b : Byte) : (satInc8 b).toNat = min 255 (b.toNat + 1) := by
  unfold satInc8; split
  · subst_vars; rfl
  · rename_i h
    have h1 := b.isLt
    have h2 : b.toNat ≠ 255 := fun e => h (BitVec.eq_of_toNat_eq (by simpa using e))
    rw [BitVec.toNat_add]; simp; omega

theorem satInc16_toNat (b : Half) : (satInc16 b).toNat = min 65535 (b.toNat + 1) := by
  unfold satInc16; split
  · subst_vars; rfl
  · rename_i h
    have h1 := b.isLt
    have h2 : b.toNat ≠ 65535 := fun e => h (BitVec.eq_of_toNat_eq (by simpa using e))
    rw [BitVec.toNat_add]; simp; omega

/-! ### Buffer memory -/

theorem Memory.read_eq_zero {m : Memory} {a : Nat} (h : ∀ c ∈ m, a < c.1) : Memory.read m a = 0 := by
  induction m with
  | nil => rfl
  | cons c m ih =>
    obtain ⟨b, v⟩ := c
    have hb : a < b := h (b, v) (by simp)
    simp only [Memory.read]
    rw [if_neg (by omega)]
    exact ih (fun c hc => h c (by simp [hc]))

/-- Reading after a put into a sorted list: the byte put at its address, every other byte as before. -/
theorem Memory.read_put {m : Memory} (hm : m.Pairwise (fun a b => a.1 < b.1)) (a : Nat) (v : Byte) (k : Nat) :
    Memory.read (m.put a v) k = if k = a then v else Memory.read m k := by
  induction m with
  | nil =>
    simp only [Memory.put]
    split <;> rename_i h0 <;> simp only [Memory.read]
    · split <;> simp [*]
  | cons c m ih =>
    obtain ⟨b, w⟩ := c
    have hlt : ∀ c ∈ m, b < c.1 := fun c hc => (List.pairwise_cons.1 hm).1 c hc
    have ih := ih (List.pairwise_cons.1 hm).2
    simp only [Memory.put]
    split
    · rename_i hab
      split
      · rename_i hv
        split
        · rename_i hk; subst hk; rw [hv]
          exact Memory.read_eq_zero (by
            intro c hc; rcases List.mem_cons.1 hc with rfl | hc
            · exact hab
            · exact Nat.lt_trans hab (hlt c hc))
        · rfl
      · simp only [Memory.read]
    · split
      · rename_i hab1 hab; subst hab
        split
        · rename_i hv
          split
          · rename_i hk; subst hk; rw [hv]; exact Memory.read_eq_zero hlt
          · rename_i hk; simp only [Memory.read]; rw [if_neg hk]
        · simp only [Memory.read]; split <;> rfl
      · rename_i hab1 hab
        simp only [Memory.read]
        rw [ih]
        by_cases h1 : k = b
        · simp [h1]
          omega
        · simp [h1]

theorem Memory.mem_put {m : Memory} {a : Nat} {v : Byte} {c : Host.Cell} (h : c ∈ m.put a v) :
    c ∈ m ∨ (c = (a, v) ∧ v ≠ 0) := by
  induction m with
  | nil =>
    simp only [Memory.put] at h
    split at h
    · simp at h
    · rename_i hv; exact Or.inr ⟨by simpa using h, hv⟩
  | cons d m ih =>
    obtain ⟨b, w⟩ := d
    simp only [Memory.put] at h
    split at h
    · split at h
      · exact Or.inl h
      · rename_i hv
        rcases List.mem_cons.1 h with rfl | h
        · exact Or.inr ⟨rfl, hv⟩
        · exact Or.inl h
    · split at h
      · split at h
        · exact Or.inl (List.mem_cons_of_mem _ h)
        · rename_i hv
          rcases List.mem_cons.1 h with rfl | h
          · exact Or.inr ⟨rfl, hv⟩
          · exact Or.inl (List.mem_cons_of_mem _ h)
      · rcases List.mem_cons.1 h with rfl | h
        · exact Or.inl (by simp)
        · rcases ih h with h | h
          · exact Or.inl (List.mem_cons_of_mem _ h)
          · exact Or.inr h

theorem Memory.pairwise_put {m : Memory} (hm : m.Pairwise (fun a b => a.1 < b.1)) (a : Nat) (v : Byte) :
    (m.put a v).Pairwise (fun a b => a.1 < b.1) := by
  induction m with
  | nil => simp only [Memory.put]; split <;> simp
  | cons d m ih =>
    obtain ⟨b, w⟩ := d
    obtain ⟨hlt, hm'⟩ := List.pairwise_cons.1 hm
    simp only [Memory.put]
    split
    · rename_i hab
      split
      · exact hm
      · refine List.pairwise_cons.2 ⟨?_, hm⟩
        intro c hc; rcases List.mem_cons.1 hc with rfl | hc
        · exact hab
        · exact Nat.lt_trans hab (hlt c hc)
    · split
      · rename_i hab; subst hab
        split
        · exact hm'
        · exact List.pairwise_cons.2 ⟨hlt, hm'⟩
      · refine List.pairwise_cons.2 ⟨?_, ih hm'⟩
        intro c hc
        rcases Memory.mem_put hc with hc | ⟨rfl, -⟩
        · exact hlt c hc
        · simp only; omega

/-- The canonical form of empty memory. -/
theorem Memory.wf_nil : Memory.wf [] := ⟨List.Pairwise.nil, by simp⟩

/-- A write keeps the canonical form. -/
theorem Memory.wf_write {m : Memory} (hm : Memory.wf m) (a : Nat) (v : Byte) : Memory.wf (m.write a v) := by
  unfold Memory.write; split
  · rename_i ha
    refine ⟨Memory.pairwise_put hm.1 a v, fun c hc => ?_⟩
    rcases Memory.mem_put hc with hc | ⟨rfl, hv⟩
    · exact hm.2 c hc
    · exact ⟨ha, hv⟩
  · exact hm

/-- Reading after a write: the byte written at its address, every other byte as before. -/
theorem Memory.read_write {m : Memory} (hm : Memory.wf m) (a : Nat) (v : Byte) (k : Nat) (ha : a < Config.memSize) :
    Memory.read (m.write a v) k = if k = a then v else Memory.read m k := by
  unfold Memory.write; rw [if_pos ha]; exact Memory.read_put hm.1 a v k

/-- A write at another address leaves a byte as it is. -/
theorem Memory.read_write_ne {m : Memory} (hm : Memory.wf m) {a k : Nat} (v : Byte) (h : k ≠ a) :
    Memory.read (m.write a v) k = Memory.read m k := by
  by_cases ha : a < Config.memSize
  · rw [Memory.read_write hm a v k ha, if_neg h]
  · simp [Memory.write, ha]

/-- Reset memory lists nothing. -/
theorem State.reset_mem_wf : Memory.wf State.reset.mem := Memory.wf_nil

/-! ### The notice queue -/

theorem Notice.takes_merge_left (r n m : Notice) : (r.merge n).takes m = r.takes m := by
  cases r <;> cases n <;> cases m <;> rfl

theorem Notice.takes_merge_right (r n m : Notice) : m.takes (r.merge n) = m.takes r := by
  cases r <;> cases n <;> cases m <;> rfl

theorem Notice.merges_merge (r n : Notice) : (r.merge n).merges = r.merges := by
  cases r <;> cases n <;> rfl

/-- The three outcomes of a hand-over (R186): merged, appended, lost. -/
theorem NoticeQueue.hand_cases (q : NoticeQueue) (n : Notice) :
    (q.records.any (·.takes n) = true ∧
        q.hand n = { q with records := q.records.map (fun r => if r.takes n then r.merge n else r) }) ∨
      (q.records.any (·.takes n) = false ∧ q.room n = true ∧ q.hand n = { q with records := q.records ++ [n] }) ∨
      (q.records.any (·.takes n) = false ∧ q.room n = false ∧ q.hand n = { q with lost := satInc8 q.lost }) := by
  unfold NoticeQueue.hand
  cases h : q.records.any (·.takes n)
  · cases h2 : q.room n <;> simp
  · simp

/-- A hand-over leaves the pause flag as it is. -/
@[simp] theorem NoticeQueue.hand_paused (q : NoticeQueue) (n : Notice) : (q.hand n).paused = q.paused := by
  unfold NoticeQueue.hand; split
  · rfl
  · split <;> rfl

@[simp] theorem NoticeQueue.depart_paused (q : NoticeQueue) : q.depart.paused = q.paused := by
  unfold NoticeQueue.depart; split <;> rfl

theorem mergingCount_merged (rs : List Notice) (n : Notice) :
    mergingCount (rs.map (fun r => if r.takes n then r.merge n else r)) = mergingCount rs := by
  unfold mergingCount
  rw [List.countP_map]
  apply List.countP_congr
  intro r _
  simp only [Function.comp]
  split <;> simp [Notice.merges_merge]

/-- A hand-over keeps the limits of R185. -/
theorem NoticeQueue.limits_hand {q : NoticeQueue} (h : q.limits) (n : Notice) : (q.hand n).limits := by
  obtain ⟨h1, h2, h3⟩ := h
  rcases q.hand_cases n with ⟨-, e⟩ | ⟨hn, hr, e⟩ | ⟨-, -, e⟩ <;> rw [e]
  · refine ⟨by simpa using h1, by rw [mergingCount_merged]; exact h2, ?_⟩
    rw [List.pairwise_map]
    refine h3.imp ?_
    intro a b hab
    by_cases ha : a.takes n <;> by_cases hb : b.takes n <;>
      simp [ha, hb, Notice.takes_merge_left, Notice.takes_merge_right, hab]
  · simp only [NoticeQueue.room, Bool.and_eq_true, decide_eq_true_eq, Bool.or_eq_true, Bool.not_eq_true'] at hr
    refine ⟨by simp; omega, ?_, ?_⟩
    · simp only [mergingCount, List.countP_append, List.countP_singleton]
      cases hm : n.merges
      · simpa [mergingCount] using h2
      · simp [hm, mergingCount] at hr ⊢; omega
    · rw [List.pairwise_append]
      refine ⟨h3, List.pairwise_singleton _ _, ?_⟩
      intro a ha b hb
      rw [List.mem_singleton] at hb; subst hb
      simp only [List.any_eq_false] at hn
      simpa using hn a ha
  · exact ⟨h1, h2, h3⟩

/-- A departure keeps the limits of R185. -/
theorem NoticeQueue.limits_depart {q : NoticeQueue} (h : q.limits) : q.depart.limits := by
  obtain ⟨h1, h2, h3⟩ := h
  have hc : mergingCount q.records.tail ≤ mergingCount q.records := by
    unfold mergingCount; exact List.Sublist.countP_le (List.tail_sublist _)
  have hp : q.records.tail.Pairwise (fun a b => a.takes b = false) := h3.sublist (List.tail_sublist _)
  unfold NoticeQueue.depart; split
  · exact ⟨by simp; omega, Nat.le_trans hc h2, hp⟩
  · refine ⟨?_, ?_, ?_⟩
    · simp only [List.length_append, List.length_tail, List.length_singleton, Config.noticeCap] at *; omega
    · simp only [mergingCount, List.countP_append, List.countP_singleton, Notice.merges] at *
      simpa using Nat.le_trans hc h2
    · rw [List.pairwise_append]
      refine ⟨hp, List.pairwise_singleton _ _, ?_⟩
      intro a _ b hb
      rw [List.mem_singleton] at hb; subst hb
      cases a <;> rfl

/-- The queue right after a reset has taken effect keeps the limits. -/
theorem NoticeQueue.limits_started (c : Cause) :
    NoticeQueue.limits { records := [.started c], lost := 0, paused := false } := by cases c <;> decide

theorem NoticeQueue.limits_powerOn : NoticeQueue.powerOn.limits := by decide

end Sys2Proof.Machine
end

