-- ==== Sys2Proof/Laws/EngineSide.lean ====
section
/-! SUPPORT. What triggers, endings and the channel engines can do: they move jobs, arbiters, engines and notices, and leave
every other part of State, every definition and buffer memory as they were. One lemma per shared operation. -/
namespace Sys2Proof.Machine

/-- From s to t only the runtime parts of jobs, the arbiters, the engines and the notice records have changed; the notice
limits hold after if they held before. -/
structure EngineSide (s t : State) : Prop where
  rstnLow : t.rstnLow = s.rstnLow
  clock : t.clock = s.clock
  phase : t.phase = s.phase
  clearPos : t.clearPos = s.clearPos
  usPhase : t.usPhase = s.usPhase
  straps : t.straps = s.straps
  spi : t.spi = s.spi
  link : t.link = s.link
  interp : t.interp = s.interp
  mem : t.mem = s.mem
  claim : t.claim = s.claim
  rotation : t.rotation = s.rotation
  targets : t.targets = s.targets
  timers : t.timers = s.timers
  lines : t.lines = s.lines
  busySeen : t.busySeen = s.busySeen
  pending : t.pending = s.pending
  paused : t.notices.paused = s.notices.paused
  limits : s.notices.limits → t.notices.limits
  defn : ∀ j, (t.job j).defn = (s.job j).defn

theorem EngineSide.refl (s : State) : EngineSide s s := by constructor <;> simp

theorem EngineSide.trans {s t u : State} (h : EngineSide s t) (k : EngineSide t u) : EngineSide s u where
  rstnLow := k.rstnLow.trans h.rstnLow
  clock := k.clock.trans h.clock
  phase := k.phase.trans h.phase
  clearPos := k.clearPos.trans h.clearPos
  usPhase := k.usPhase.trans h.usPhase
  straps := k.straps.trans h.straps
  spi := k.spi.trans h.spi
  link := k.link.trans h.link
  interp := k.interp.trans h.interp
  mem := k.mem.trans h.mem
  claim := k.claim.trans h.claim
  rotation := k.rotation.trans h.rotation
  targets := k.targets.trans h.targets
  timers := k.timers.trans h.timers
  lines := k.lines.trans h.lines
  busySeen := k.busySeen.trans h.busySeen
  pending := k.pending.trans h.pending
  paused := k.paused.trans h.paused
  limits := fun x => k.limits (h.limits x)
  defn := fun j => (k.defn j).trans (h.defn j)

/-- A fold of operations of this kind is one. -/
theorem EngineSide.foldl {α : Type} (f : State → α → State) (hf : ∀ s a, EngineSide s (f s a)) (l : List α) :
    ∀ s, EngineSide s (l.foldl f s) := by
  induction l with
  | nil => exact EngineSide.refl
  | cons a l ih => intro s; exact (hf s a).trans (ih (f s a))

/-- The relation does not depend on the contents of memory. -/
theorem EngineSide.setMem {s t : State} (h : EngineSide s t) (m : Memory) : EngineSide (s.setMem m) (t.setMem m) :=
  ⟨h.rstnLow, h.clock, h.phase, h.clearPos, h.usPhase, h.straps, h.spi, h.link, h.interp, rfl, h.claim, h.rotation,
    h.targets, h.timers, h.lines, h.busySeen, h.pending, h.paused, h.limits, h.defn⟩

/-! ### Triggers and endings -/

theorem State.setEng_side (s : State) (c : Fin 4) (e : Engine) : EngineSide s (s.setEng c e) := by constructor <;> simp
theorem State.setArb_side (s : State) (c : Fin 4) (a : Arbiter) : EngineSide s (s.setArb c a) := by constructor <;> simp

theorem State.setRt_side (s : State) (j : Fin 64) (r : Runtime) : EngineSide s (s.setRt j r) := by
  constructor <;> first | (intro k; exact State.defn_setRt s j k r) | simp [State.setRt]

theorem State.hand_side (s : State) (n : Notice) : EngineSide s (s.hand n) := by
  constructor <;> first | (intro h; exact NoticeQueue.limits_hand h n) | simp [State.hand]

theorem State.choiceDue_side (s : State) (c : Fin 4) : EngineSide s (s.choiceDue c) := s.setArb_side c _

theorem State.choiceDueAll_side (s : State) : EngineSide s s.choiceDueAll := by constructor <;> first | exact id | intro; rfl | rfl

theorem State.choiceDueFor_side (s : State) (j : Fin 64) : EngineSide s (s.choiceDueFor j) := by
  unfold State.choiceDueFor; split
  · exact s.choiceDue_side _
  · exact .refl s

theorem State.trigger_side (s : State) (j : Fin 64) : EngineSide s (s.trigger j) := by
  unfold State.trigger; split
  · exact .refl s
  · exact (s.setRt_side j _).trans (State.choiceDueFor_side _ j)
  · exact s.setRt_side j _
  · exact (s.setRt_side j _).trans (State.hand_side _ _)

theorem State.triggerAll_side (s : State) (src : TrigSource) : EngineSide s (s.triggerAll src) :=
  EngineSide.foldl _ State.trigger_side _ s

theorem State.fire_side (s : State) (l : Option (Fin 64)) : EngineSide s (s.fire l) := by
  cases l
  · exact .refl s
  · exact s.trigger_side _

theorem State.passEndState_side (s : State) (j : Fin 64) : EngineSide s (s.passEndState j) := by
  unfold State.passEndState; split
  · exact (s.setRt_side j _).trans (State.choiceDueFor_side _ j)
  · exact s.setRt_side j _

theorem State.passEnd_side (s : State) (j : Fin 64) (d : JobDef) (o : PassOutcome) : EngineSide s (s.passEnd j d o) := by
  unfold State.passEnd
  refine EngineSide.trans ?_ (State.passEndState_side _ j)
  split
  · exact ((s.setRt_side j _).trans (State.fire_side _ _)).trans (State.hand_side _ _)
  · exact (s.setRt_side j _).trans (State.fire_side _ _)

theorem State.cancelledEnding_side (s : State) (j : Fin 64) : EngineSide s (s.cancelledEnding j) :=
  (s.hand_side _).trans (State.setRt_side _ _ _)

theorem State.haltJob_side (s : State) (c : Fin 4) (j : Fin 64) (f : JobFault) : EngineSide s (s.haltJob c j f) :=
  (s.setRt_side j _).trans (State.hand_side _ _)

theorem State.faultEnding_side (s : State) (j : Fin 64) (d : JobDef) (f : JobFault) :
    EngineSide s (s.faultEnding j d f) :=
  (s.haltJob_side _ j f).trans (State.fire_side _ _)

theorem State.suspend_side (s : State) (c : Fin 4) (j : Fin 64) : EngineSide s (s.suspend c j) := by
  unfold State.suspend; split
  · exact (s.setRt_side j _).trans (State.setArb_side _ _ _)
  · exact .refl s

theorem State.applyEnding_side (s : State) (c : Fin 4) (j : Fin 64) (d : JobDef) (r : LagReason) :
    EngineSide s (s.applyEnding c j d r) := by
  unfold State.applyEnding; split
  · exact s.faultEnding_side j d _
  · exact s.cancelledEnding_side j
  · exact s.cancelledEnding_side j
  · split
    · exact s.cancelledEnding_side j
    · exact s.passEnd_side j d _
  · split
    · exact s.cancelledEnding_side j
    · exact s.suspend_side c j

/-! ### The engine -/

theorem State.finishPass_side (s : State) (x : Pass) (r : LagReason) : EngineSide s (s.finishPass x r) :=
  (s.setEng_side _ _).trans ((State.applyEnding_side _ _ _ _ _).trans (State.choiceDue_side _ _))

theorem State.enterLag_side (s : State) (x : Pass) (r : LagReason) : EngineSide s (s.enterLag x r) := by
  unfold State.enterLag; split
  · exact s.finishPass_side x r
  · exact s.setEng_side _ _

theorem State.startShift_side (s : State) (x : Pass) : EngineSide s (s.startShift x) := s.setEng_side _ _

theorem State.afterBusy_side (s : State) (x : Pass) : EngineSide s (s.afterBusy x) := by
  unfold State.afterBusy; repeat' split
  · exact s.startShift_side x
  · exact s.enterLag_side x _
  · exact s.enterLag_side x _
  · exact s.startShift_side x

theorem State.enterBusy_side (s : State) (x : Pass) : EngineSide s (s.enterBusy x) := by
  unfold State.enterBusy; split
  · exact s.afterBusy_side x
  · exact s.setEng_side _ _

theorem State.unitSteps_side (s : State) (x : Pass) : EngineSide s (s.unitSteps x) := by
  unfold State.unitSteps; simp only
  split
  · exact (s.setEng_side x.chan _).trans (State.enterLag_side _ x _)
  · exact (s.setEng_side x.chan _).trans (State.enterBusy_side _ x)

theorem State.enterGap_side (s : State) (x : Pass) : EngineSide s (s.enterGap x) := by
  unfold State.enterGap; split
  · exact s.startShift_side x
  · exact s.setEng_side _ _

theorem State.waitForStore_side (s : State) (x : Pass) : EngineSide s (s.waitForStore x) := s.setEng_side _ _

theorem State.countByte_side (s : State) (x : Pass) : EngineSide s (s.countByte x) :=
  (s.setEng_side _ _).trans (State.setRt_side _ _ _)

theorem State.afterByte_side (s : State) (x : Pass) : EngineSide s (s.afterByte x) := by
  unfold State.afterByte; simp only; repeat' split
  · exact s.waitForStore_side x
  · exact s.enterLag_side x _
  · exact s.waitForStore_side x
  · exact s.enterLag_side x _
  · exact s.enterGap_side x
  · exact s.setEng_side _ _
  · exact s.waitForStore_side x
  · exact s.unitSteps_side x

theorem State.afterStore_side (s : State) (x : Pass) : EngineSide s (s.afterStore x) := by
  unfold State.afterStore; simp only; repeat' split
  all_goals first
    | exact .refl s
    | exact s.enterLag_side x _
    | exact s.unitSteps_side x

theorem State.leadDone_side (s : State) (x : Pass) : EngineSide s (s.leadDone x) := by
  unfold State.leadDone; split
  · exact s.enterLag_side x _
  · exact s.enterBusy_side x

theorem State.assertSelect_side (s : State) (x : Pass) : EngineSide s (s.assertSelect x) := by
  unfold State.assertSelect; simp only; split
  · exact (s.setEng_side x.chan _).trans (State.leadDone_side _ x)
  · exact s.setEng_side _ _

theorem State.selectTarget_side (s : State) (x : Pass) : EngineSide s (s.selectTarget x) := by
  unfold State.selectTarget; simp only; split
  · exact (s.setEng_side x.chan _).trans (State.assertSelect_side _ x)
  · exact s.setEng_side _ _

theorem State.startPass_side (s : State) (x : Pass) : EngineSide s (s.startPass x) :=
  (s.setEng_side x.chan _).trans (State.selectTarget_side _ x)

theorem State.enterPollWait_side (s : State) (x : Pass) : EngineSide s (s.enterPollWait x) := by
  unfold State.enterPollWait; split
  · exact s.startPass_side x
  · exact s.setEng_side _ _

theorem State.countAttempt_side (s : State) (x : Pass) (b : Byte) : EngineSide s (s.countAttempt x b) :=
  s.setRt_side _ _

theorem State.settleAttempt_side (s : State) (x : Pass) : EngineSide s (s.settleAttempt x) := by
  unfold State.settleAttempt
  refine (s.countAttempt_side x ((s.eng x.chan).inByte.getD 0)).trans ?_
  simp only
  repeat' split
  · exact State.finishPass_side _ x _
  · exact State.finishPass_side _ x _
  · exact State.finishPass_side _ x _
  · exact State.finishPass_side _ x _
  · exact State.enterPollWait_side _ x

theorem State.enterAttemptLag_side (s : State) (x : Pass) : EngineSide s (s.enterAttemptLag x) := by
  unfold State.enterAttemptLag; split
  · exact s.settleAttempt_side x
  · exact s.setEng_side _ _

theorem State.carryCancel_side (s : State) (x : Pass) : EngineSide s (s.carryCancel x) := by
  unfold State.carryCancel; simp only; repeat' split
  all_goals first
    | exact .refl s
    | exact s.waitForStore_side x
    | exact s.enterLag_side x _
    | exact s.finishPass_side x _

theorem State.onPass_side (s : State) (c : Fin 4) (f : Pass → State) (hf : ∀ x, EngineSide s (f x)) :
    EngineSide s (s.onPass c f) := by
  unfold State.onPass; split
  · exact .refl s
  · exact hf _

/-- The pass of channel c names that channel and the engine's job with its definition and its target's profile. -/
theorem State.pass?_eq {s : State} {c : Fin 4} {x : Pass} (h : s.pass? c = some x) :
    x.chan = c ∧ (s.eng c).job = some x.job ∧ (s.job x.job).defn = some x.defn ∧ x.prof = s.target x.defn.target := by
  unfold State.pass? at h
  split at h
  · simp at h
  · rename_i j hj
    split at h
    · simp at h
    · rename_i d hd
      simp only [Option.some.injEq] at h
      subst h
      exact ⟨rfl, hj, hd, rfl⟩

/-- What an engine can do as it stops: as above, but for one write to memory at most, which keeps its canonical form. -/
theorem State.stopEngine_mem (s : State) (c : Fin 4) :
    (s.stopEngine c).mem = s.mem ∨ ∃ a b, (s.stopEngine c).mem = s.mem.write a b := by
  unfold State.stopEngine
  simp only [State.setEng_mem]
  split
  · exact Or.inl rfl
  · unfold State.storeAtStop
    split
    · exact Or.inl rfl
    · exact Or.inr ⟨_, _, rfl⟩

/-- Beside that write, an engine that stops leaves what every engine operation leaves. -/
theorem State.stopEngine_side (s : State) (c : Fin 4) : EngineSide (s.setMem (s.stopEngine c).mem) (s.stopEngine c) := by
  unfold State.stopEngine
  simp only [State.setEng_mem]
  split
  · exact State.setEng_side _ _ _
  · rename_i x _
    unfold State.storeAtStop
    split
    · exact State.setEng_side _ _ _
    · exact (State.countByte_side _ x).trans (State.setEng_side _ _ _)

/-! ### Dispatch -/

theorem State.dispatch_side (s : State) (c : Fin 4) (j : Fin 64) : EngineSide s (s.dispatch c j) := by
  unfold State.dispatch; split
  · exact .refl s
  · exact (s.setRt_side j _).trans (State.startPass_side _ _)

theorem State.resume_side (s : State) (c : Fin 4) (j : Fin 64) : EngineSide s (s.resume c j) := by
  unfold State.resume; split
  · exact (s.setArb_side c _).trans ((State.setRt_side _ j _).trans (State.startPass_side _ _))
  · exact .refl s

theorem State.choose_side (s : State) (c : Fin 4) : EngineSide s (s.choose c) := by
  unfold State.choose; repeat' split
  · exact s.dispatch_side c _
  · exact s.resume_side c _
  · exact s.dispatch_side c _
  · exact .refl s

/-! ### The events of a pass -/

theorem State.endStored_side (s : State) (x : Pass) (b : Byte) : EngineSide s (s.endStored x b) := by
  unfold State.endStored; simp only; repeat' split
  · exact s.countByte_side x
  · exact s.setEng_side _ _
  · exact s.setEng_side _ _

theorem State.endByte_side (s : State) (x : Pass) (b : Byte) : EngineSide s (s.endByte x b) := by
  unfold State.endByte; simp only; split
  · exact (s.setEng_side x.chan _).trans (State.enterAttemptLag_side _ x)
  · refine EngineSide.trans ?_ (State.afterByte_side _ x)
    split
    · exact (s.setEng_side x.chan _).trans (State.countByte_side _ x)
    · exact (s.setEng_side x.chan _).trans (State.setEng_side _ _ _)
    · exact (s.setEng_side x.chan _).trans (State.endStored_side _ x b)
    · exact (s.setEng_side x.chan _).trans (State.endStored_side _ x b)

theorem State.lagDone_side (s : State) (x : Pass) : EngineSide s (s.lagDone x) := by
  unfold State.lagDone; split
  · exact .refl s
  · exact s.settleAttempt_side x
  · exact s.finishPass_side x _

theorem State.bitsArrived_side (s : State) (x : Pass) (b : Byte) : EngineSide s (s.bitsArrived x b) := by
  unfold State.bitsArrived; simp only; repeat' split
  all_goals first
    | exact .refl s
    | exact s.setEng_side _ _

/-! ### Requests on jobs and channels -/

theorem State.cancelRunning_side (s : State) (j : Fin 64) : EngineSide s (s.cancelRunning j) := by
  unfold State.cancelRunning; split
  · exact .refl s
  · simp only
    split
    · exact s.setRt_side j _
    · refine (s.setRt_side j _).trans (State.onPass_side _ _ _ (fun x => ?_))
      split
      · exact State.carryCancel_side _ x
      · exact .refl _

theorem State.cancelSuspended_side (s : State) (j : Fin 64) : EngineSide s (s.cancelSuspended j) := by
  unfold State.cancelSuspended; simp only
  split
  · exact s.cancelledEnding_side j
  · exact (s.cancelledEnding_side j).trans (State.setArb_side _ _ _)

theorem State.hold_side (s : State) (c : Fin 4) (b : Bool) : EngineSide s (s.hold c b) := s.setArb_side c _

theorem State.abortJob_side (s : State) (c : Fin 4) (o : Option (Fin 64)) : EngineSide s (s.abortJob c o) := by
  cases o
  · exact .refl s
  · exact s.haltJob_side c _ _

theorem State.abortChannel_mem (s : State) (c : Fin 4) :
    (s.abortChannel c).mem = (s.stopEngine c).mem := by
  unfold State.abortChannel
  simp only [State.setArb_mem]
  exact ((EngineSide.foldl _ (fun s j => s.setRt_side j _) _ _).mem).trans
    (((State.abortJob_side _ c _).trans (State.abortJob_side _ c _)).mem)

theorem State.abortChannel_side (s : State) (c : Fin 4) :
    EngineSide (s.setMem (s.stopEngine c).mem) (s.abortChannel c) := by
  unfold State.abortChannel
  refine EngineSide.trans ?_ (State.setArb_side _ _ _)
  refine EngineSide.trans ?_ (EngineSide.foldl _ (fun s j => s.setRt_side j _) _ _)
  exact (s.stopEngine_side c).trans ((State.abortJob_side _ c _).trans (State.abortJob_side _ c _))

end Sys2Proof.Machine
end

