-- ==== Sys2Proof/Laws/LinkSide.lean ====
section
/-! SUPPORT. What the link controller and the interpreter's hand-overs can do: they move the link's own state, the interpreter
and the notice queue, and leave jobs, channels, memory and the rest as they were. One lemma per shared operation. -/
namespace Sys2Proof.Machine

/-- From s to t only the link controller, the SPI byte slot, the interpreter and the notice queue have changed; the pause flag
is as it was, and the notice limits hold after if they held before. -/
structure LinkSide (s t : State) : Prop where
  rstnLow : t.rstnLow = s.rstnLow
  clock : t.clock = s.clock
  phase : t.phase = s.phase
  clearPos : t.clearPos = s.clearPos
  usPhase : t.usPhase = s.usPhase
  straps : t.straps = s.straps
  lselnLow : t.spi.lselnLow = s.spi.lselnLow
  mem : t.mem = s.mem
  claim : t.claim = s.claim
  rotation : t.rotation = s.rotation
  targets : t.targets = s.targets
  jobs : t.jobs = s.jobs
  timers : t.timers = s.timers
  lines : t.lines = s.lines
  busySeen : t.busySeen = s.busySeen
  arbs : t.arbs = s.arbs
  engs : t.engs = s.engs
  pending : t.pending = s.pending
  paused : t.notices.paused = s.notices.paused
  limits : s.notices.limits → t.notices.limits

theorem LinkSide.refl (s : State) : LinkSide s s := by constructor <;> simp

theorem LinkSide.trans {s t u : State} (h : LinkSide s t) (k : LinkSide t u) : LinkSide s u where
  rstnLow := k.rstnLow.trans h.rstnLow
  clock := k.clock.trans h.clock
  phase := k.phase.trans h.phase
  clearPos := k.clearPos.trans h.clearPos
  usPhase := k.usPhase.trans h.usPhase
  straps := k.straps.trans h.straps
  lselnLow := k.lselnLow.trans h.lselnLow
  mem := k.mem.trans h.mem
  claim := k.claim.trans h.claim
  rotation := k.rotation.trans h.rotation
  targets := k.targets.trans h.targets
  jobs := k.jobs.trans h.jobs
  timers := k.timers.trans h.timers
  lines := k.lines.trans h.lines
  busySeen := k.busySeen.trans h.busySeen
  arbs := k.arbs.trans h.arbs
  engs := k.engs.trans h.engs
  pending := k.pending.trans h.pending
  paused := k.paused.trans h.paused
  limits := fun x => k.limits (h.limits x)

/-! ### Answers -/

/-- Placing an answer and going on is the one change `State.answered` (R32, R37). -/
theorem State.reply_eq (s : State) (p : Fin 4) (r : Request) (res : Result) (data : List Byte) :
    s.reply p r res data = s.answered p r res data := by
  obtain ⟨a1, a2, a3, a4, a5, a6, a7, l, a9, a10, a11, a12, a13, a14, a15, a16, a17, a18, a19, a20, a21⟩ := s
  obtain ⟨rx, places, waiting, refusal, answers, replay, cf, fe, dr, tx, tc⟩ := l
  cases waiting <;> rfl

theorem State.answered_side (s : State) (p : Fin 4) (r : Request) (res : Result) (data : List Byte) :
    LinkSide s (s.answered p r res data) := by
  constructor <;> first | exact id | rfl

theorem State.reply_side (s : State) (p : Fin 4) (r : Request) (res : Result) (data : List Byte) :
    LinkSide s (s.reply p r res data) := by rw [State.reply_eq]; exact s.answered_side p r res data

theorem State.placeAnswer_side (s : State) (p : Fin 4) (r : Request) (res : Result) (data : List Byte) :
    LinkSide s (s.placeAnswer p r res data) := by constructor <;> first | exact id | rfl

theorem State.setInterp_side (s : State) (i : Interp) : LinkSide s (s.setInterp i) := by
  constructor <;> first | exact id | rfl

theorem State.clearCounters_side (s : State) : LinkSide s s.clearCounters := by constructor <;> first | exact id | rfl

/-! ### The receiver -/

theorem State.refuse_side (s : State) (tag typ : Byte) : LinkSide s (s.refuse tag typ) := by
  unfold State.refuse; split <;> constructor <;> first | exact id | rfl

theorem State.accept_side (s : State) (p : Fin 4) (tag typ : Byte) (payload : List Byte) (crc : Half) :
    LinkSide s (s.accept p tag typ payload crc) := by
  unfold State.accept; simp only; split <;> constructor <;> first | exact id | rfl

theorem State.duplicate_side (s : State) (e : Replay) (tag typ : Byte) : LinkSide s (s.duplicate e tag typ) := by
  unfold State.duplicate; repeat' split
  · exact .refl s
  · constructor <;> first | exact id | rfl
  · exact s.refuse_side tag typ

theorem State.goodFrame_side (s : State) (tag typ : Byte) (payload : List Byte) (crc : Half) :
    LinkSide s (s.goodFrame tag typ payload crc) := by
  unfold State.goodFrame; repeat' split
  · exact s.duplicate_side _ tag typ
  · exact s.accept_side _ tag typ payload crc
  · exact s.refuse_side tag typ

theorem State.setRx_side (s : State) (r : Receiver) : LinkSide s (s.setRx r) := by constructor <;> first | exact id | rfl

theorem State.formatError_side (s : State) : LinkSide s s.formatError := by constructor <;> first | exact id | rfl

theorem State.breakFrame_side (s : State) : LinkSide s s.breakFrame := by
  unfold State.breakFrame; split
  · exact .refl s
  · exact s.formatError_side

theorem State.checkFrame_side (s : State) (b : Byte) : LinkSide s (s.checkFrame b) := by
  unfold State.checkFrame; simp only; split
  · exact (s.setRx_side _).trans (State.goodFrame_side _ _ _ _ _)
  · constructor <;> first | exact id | rfl

theorem State.rxByte_side (s : State) (b : Byte) : LinkSide s (s.rxByte b) := by
  unfold State.rxByte; simp only; split
  · split
    · exact s.setRx_side _
    · exact .refl s
  · split
    · exact s.formatError_side
    · exact s.setRx_side _
  · exact s.setRx_side _
  · split
    · exact s.setRx_side _
    · exact s.checkFrame_side b

/-! ### The transmitter -/

theorem State.startFrame_side (s : State) (src : Source) (bs : List Byte) : LinkSide s (s.startFrame src bs) := by
  constructor <;> first | exact id | rfl

theorem State.frameBoundary_side (s : State) : LinkSide s s.frameBoundary := by
  unfold State.frameBoundary; repeat' split
  · exact .refl s
  · exact s.startFrame_side _ _
  · exact .refl s
  · rename_i n _ _ _
    refine (s.startFrame_side .notice n.frame).trans ?_
    constructor <;> first | exact NoticeQueue.limits_depart | simp [State.startFrame]
  · exact .refl s

/-- A frame boundary leaves the interpreter, the SPI slot, the receiver, the places, the answer queue, the replay memory and
the counters as they were. -/
theorem State.frameBoundary_link (s : State) :
    s.frameBoundary.interp = s.interp ∧ s.frameBoundary.spi = s.spi ∧
      s.frameBoundary.link = { s.link with tx := s.frameBoundary.link.tx, txClocks := s.frameBoundary.link.txClocks } := by
  unfold State.frameBoundary; repeat' split
  all_goals exact ⟨rfl, rfl, rfl⟩

theorem State.uartBoundary_side (s : State) : LinkSide s s.uartBoundary := by
  unfold State.uartBoundary; split
  · exact s.frameBoundary_side
  · exact .refl s

theorem State.uartBoundary_link (s : State) :
    s.uartBoundary.interp = s.interp ∧ s.uartBoundary.spi = s.spi ∧
      s.uartBoundary.link = { s.link with tx := s.uartBoundary.link.tx, txClocks := s.uartBoundary.link.txClocks } := by
  unfold State.uartBoundary; split
  · exact s.frameBoundary_link
  · exact ⟨rfl, rfl, rfl⟩

theorem State.freeAnswer_side (s : State) (r : AnswerRef) : LinkSide s (s.freeAnswer r) := by
  unfold State.freeAnswer; simp only; split <;> constructor <;> first | exact id | rfl

theorem State.slotStart_side (s : State) : LinkSide s s.slotStart := by
  have h : LinkSide s (if s.phase = .running then s.frameBoundary else s) := by
    split
    · exact s.frameBoundary_side
    · exact .refl s
  refine h.trans ?_
  constructor <;> first | exact id | rfl

/-- The end of a frame: a change at the link, or, at the end of the RESET answer, the reset of the RESET request (R44). -/
theorem State.frameSent_cases (s : State) (src : Source) :
    LinkSide s (s.frameSent src) ∨ ∃ t, LinkSide s t ∧ s.frameSent src = t.resetRequest := by
  unfold State.frameSent; simp only
  split
  · left; constructor <;> first | exact id | rfl
  · rename_i r
    have h : LinkSide s ({ s with link := { s.link with tx := none, txClocks := 0 } } : State) := by
      constructor <;> first | exact id | rfl
    have h2 := h.trans (State.freeAnswer_side _ r)
    split
    · split
      · exact Or.inr ⟨_, h2, rfl⟩
      · exact Or.inl h2
    · exact Or.inl h2

theorem State.txByteSent_cases (s : State) :
    LinkSide s s.txByteSent ∨ ∃ t, LinkSide s t ∧ s.txByteSent = t.resetRequest := by
  unfold State.txByteSent; split
  · exact Or.inl (.refl s)
  · split
    · left; constructor <;> first | exact id | rfl
    · exact s.frameSent_cases _

theorem State.slotSent_cases (s : State) (k : Slot) :
    LinkSide s (s.slotSent k) ∨ ∃ t, LinkSide s t ∧ s.slotSent k = t.resetRequest := by
  cases k
  · exact Or.inl (.refl s)
  · exact s.txByteSent_cases

/-! ### The resets -/

/-- Every engine that stops: at most one write each to memory; the rest as every engine operation leaves it. -/
theorem State.stopAll_side (s : State) : EngineSide (s.setMem s.stopAll.mem) s.stopAll := by
  unfold State.stopAll
  have h : ∀ (l : List (Fin 4)) (s : State), EngineSide (s.setMem (l.foldl State.stopEngine s).mem) (l.foldl State.stopEngine s) := by
    intro l
    induction l with
    | nil => intro s; exact .refl s
    | cons c l ih =>
      intro s
      have h1 := s.stopEngine_side c
      have h2 := ih (s.stopEngine c)
      simp only [List.foldl_cons]
      exact (h1.setMem _).trans h2
  exact h _ s

/-- Stopping the engines keeps the canonical form of memory. -/
theorem State.stopAll_wf {s : State} (h : Memory.wf s.mem) : Memory.wf s.stopAll.mem := by
  unfold State.stopAll
  have key : ∀ (l : List (Fin 4)) (s : State), Memory.wf s.mem → Memory.wf (l.foldl State.stopEngine s).mem := by
    intro l
    induction l with
    | nil => intro s h; exact h
    | cons c l ih =>
      intro s h
      apply ih
      rcases s.stopEngine_mem c with e | ⟨a, b, e⟩ <;> rw [e]
      · exact h
      · exact Memory.wf_write h a b
  exact key _ s h

/-- What the reset of the RESET request leaves (R46): the straps, the pins, the clock and memory but for the stores of the
stop are kept, and every block is at its value. -/
theorem State.resetRequest_eq (s : State) :
    s.resetRequest = { s with
      link := .powerOn, interp := .idle, claim := none, rotation := 4
      targets := Vector.replicate 16 .default, jobs := Vector.replicate 64 .free
      timers := Vector.replicate 4 .powerOn, lines := s.lines.map (fun l => { l with sel := .off })
      arbs := Vector.replicate 4 .powerOn, engs := Vector.replicate 4 .powerOn
      mem := s.stopAll.mem
      notices := { records := [.started .resetRequest], lost := 0, paused := false } } := by
  have h := s.stopAll_side
  have e : ∀ t : State, (t.clearBlocks).hand (.started .resetRequest) = { t with
      link := .powerOn, interp := .idle, claim := none, rotation := 4
      targets := Vector.replicate 16 .default, jobs := Vector.replicate 64 .free
      timers := Vector.replicate 4 .powerOn, lines := t.lines.map (fun l => { l with sel := .off })
      arbs := Vector.replicate 4 .powerOn, engs := Vector.replicate 4 .powerOn
      notices := { records := [.started .resetRequest], lost := 0, paused := false } } := fun _ => rfl
  unfold State.resetRequest
  rw [e, h.rstnLow, h.clock, h.phase, h.clearPos, h.usPhase, h.straps, h.spi, h.lines, h.busySeen, h.pending]
  rfl

/-- What RSTn low leaves inside the part (R2). -/
theorem State.powerOn_eq (s : State) :
    s.powerOn = { s with
      link := .powerOn, interp := .idle, claim := none, rotation := 4
      targets := Vector.replicate 16 .default, jobs := Vector.replicate 64 .free
      timers := Vector.replicate 4 .powerOn, lines := s.lines.map (fun _ => { sel := .off, seen := none })
      arbs := Vector.replicate 4 .powerOn, engs := Vector.replicate 4 .powerOn
      mem := s.stopAll.mem, notices := .powerOn
      phase := .held, clearPos := 0, usPhase := 0, spi := { s.spi with ignored := false, slot := none }
      busySeen := Vector.replicate 4 none } := by
  have h := s.stopAll_side
  have e : ∀ t : State, ({ t.clearBlocks with
      phase := .held, clearPos := 0, usPhase := 0
      spi := { t.clearBlocks.spi with ignored := false, slot := none }
      lines := t.clearBlocks.lines.map (fun l => { l with seen := none })
      busySeen := Vector.replicate 4 none } : State) = { t with
      link := .powerOn, interp := .idle, claim := none, rotation := 4
      targets := Vector.replicate 16 .default, jobs := Vector.replicate 64 .free
      timers := Vector.replicate 4 .powerOn, lines := t.lines.map (fun _ => { sel := .off, seen := none })
      arbs := Vector.replicate 4 .powerOn, engs := Vector.replicate 4 .powerOn
      notices := .powerOn
      phase := .held, clearPos := 0, usPhase := 0, spi := { t.spi with ignored := false, slot := none }
      busySeen := Vector.replicate 4 none } := by
    intro t
    have hl : t.clearBlocks.lines.map (fun l => { l with seen := none }) =
        t.lines.map (fun _ => ({ sel := .off, seen := none } : Line)) := by
      show (t.lines.map (fun l => ({ l with sel := .off } : Line))).map (fun l => ({ l with seen := none } : Line)) = _
      rw [Vector.map_map]; rfl
    rw [hl]; rfl
  unfold State.powerOn
  rw [e, h.rstnLow, h.clock, h.straps, h.spi, h.lines, h.pending]
  rfl

@[simp] theorem State.resetRequest_rstnLow (s : State) : s.resetRequest.rstnLow = s.rstnLow := by rw [State.resetRequest_eq]
@[simp] theorem State.resetRequest_clock (s : State) : s.resetRequest.clock = s.clock := by rw [State.resetRequest_eq]
@[simp] theorem State.resetRequest_phase (s : State) : s.resetRequest.phase = s.phase := by rw [State.resetRequest_eq]
@[simp] theorem State.resetRequest_clearPos (s : State) : s.resetRequest.clearPos = s.clearPos := by rw [State.resetRequest_eq]
@[simp] theorem State.resetRequest_usPhase (s : State) : s.resetRequest.usPhase = s.usPhase := by rw [State.resetRequest_eq]
@[simp] theorem State.resetRequest_straps (s : State) : s.resetRequest.straps = s.straps := by rw [State.resetRequest_eq]
@[simp] theorem State.resetRequest_spi (s : State) : s.resetRequest.spi = s.spi := by rw [State.resetRequest_eq]
@[simp] theorem State.resetRequest_link (s : State) : s.resetRequest.link = .powerOn := by rw [State.resetRequest_eq]
@[simp] theorem State.resetRequest_interp (s : State) : s.resetRequest.interp = .idle := by rw [State.resetRequest_eq]
@[simp] theorem State.resetRequest_mem (s : State) : s.resetRequest.mem = s.stopAll.mem := by rw [State.resetRequest_eq]
@[simp] theorem State.resetRequest_claim (s : State) : s.resetRequest.claim = none := by rw [State.resetRequest_eq]
@[simp] theorem State.resetRequest_rotation (s : State) : s.resetRequest.rotation = 4 := by rw [State.resetRequest_eq]
@[simp] theorem State.resetRequest_targets (s : State) : s.resetRequest.targets = Vector.replicate 16 .default := by rw [State.resetRequest_eq]
@[simp] theorem State.resetRequest_jobs (s : State) : s.resetRequest.jobs = Vector.replicate 64 .free := by rw [State.resetRequest_eq]
@[simp] theorem State.resetRequest_timers (s : State) : s.resetRequest.timers = Vector.replicate 4 .powerOn := by rw [State.resetRequest_eq]
@[simp] theorem State.resetRequest_lines (s : State) : s.resetRequest.lines = s.lines.map (fun l => { l with sel := .off }) := by rw [State.resetRequest_eq]
@[simp] theorem State.resetRequest_busySeen (s : State) : s.resetRequest.busySeen = s.busySeen := by rw [State.resetRequest_eq]
@[simp] theorem State.resetRequest_arbs (s : State) : s.resetRequest.arbs = Vector.replicate 4 .powerOn := by rw [State.resetRequest_eq]
@[simp] theorem State.resetRequest_engs (s : State) : s.resetRequest.engs = Vector.replicate 4 .powerOn := by rw [State.resetRequest_eq]
@[simp] theorem State.resetRequest_notices (s : State) : s.resetRequest.notices = { records := [.started .resetRequest], lost := 0, paused := false } := by rw [State.resetRequest_eq]
@[simp] theorem State.resetRequest_pending (s : State) : s.resetRequest.pending = s.pending := by rw [State.resetRequest_eq]

@[simp] theorem State.powerOn_rstnLow (s : State) : s.powerOn.rstnLow = s.rstnLow := by rw [State.powerOn_eq]
@[simp] theorem State.powerOn_clock (s : State) : s.powerOn.clock = s.clock := by rw [State.powerOn_eq]
@[simp] theorem State.powerOn_phase (s : State) : s.powerOn.phase = .held := by rw [State.powerOn_eq]
@[simp] theorem State.powerOn_clearPos (s : State) : s.powerOn.clearPos = 0 := by rw [State.powerOn_eq]
@[simp] theorem State.powerOn_usPhase (s : State) : s.powerOn.usPhase = 0 := by rw [State.powerOn_eq]
@[simp] theorem State.powerOn_straps (s : State) : s.powerOn.straps = s.straps := by rw [State.powerOn_eq]
@[simp] theorem State.powerOn_spi (s : State) : s.powerOn.spi = { s.spi with ignored := false, slot := none } := by rw [State.powerOn_eq]
@[simp] theorem State.powerOn_link (s : State) : s.powerOn.link = .powerOn := by rw [State.powerOn_eq]
@[simp] theorem State.powerOn_interp (s : State) : s.powerOn.interp = .idle := by rw [State.powerOn_eq]
@[simp] theorem State.powerOn_mem (s : State) : s.powerOn.mem = s.stopAll.mem := by rw [State.powerOn_eq]
@[simp] theorem State.powerOn_claim (s : State) : s.powerOn.claim = none := by rw [State.powerOn_eq]
@[simp] theorem State.powerOn_rotation (s : State) : s.powerOn.rotation = 4 := by rw [State.powerOn_eq]
@[simp] theorem State.powerOn_targets (s : State) : s.powerOn.targets = Vector.replicate 16 .default := by rw [State.powerOn_eq]
@[simp] theorem State.powerOn_jobs (s : State) : s.powerOn.jobs = Vector.replicate 64 .free := by rw [State.powerOn_eq]
@[simp] theorem State.powerOn_timers (s : State) : s.powerOn.timers = Vector.replicate 4 .powerOn := by rw [State.powerOn_eq]
@[simp] theorem State.powerOn_lines (s : State) : s.powerOn.lines = s.lines.map (fun _ => { sel := .off, seen := none }) := by rw [State.powerOn_eq]
@[simp] theorem State.powerOn_busySeen (s : State) : s.powerOn.busySeen = Vector.replicate 4 none := by rw [State.powerOn_eq]
@[simp] theorem State.powerOn_arbs (s : State) : s.powerOn.arbs = Vector.replicate 4 .powerOn := by rw [State.powerOn_eq]
@[simp] theorem State.powerOn_engs (s : State) : s.powerOn.engs = Vector.replicate 4 .powerOn := by rw [State.powerOn_eq]
@[simp] theorem State.powerOn_notices (s : State) : s.powerOn.notices = .powerOn := by rw [State.powerOn_eq]
@[simp] theorem State.powerOn_pending (s : State) : s.powerOn.pending = s.pending := by rw [State.powerOn_eq]

end Sys2Proof.Machine
end

