-- ==== Sys2Proof/Laws/Commands.lean ====
section
/-! SUPPORT. The three shapes a command has: a request served, a request on a job served, and an event of an engine. What each
can answer, and what it does answer when its conditions hold. -/
namespace Sys2Proof.Machine

/-- The request a command carries out, under the conditions the statements name. -/
theorem State.current_of_carries {s : State} {code : Byte} {p : Fin 4} {r : Request} (h : s.carries code p r) :
    s.current = some (p, r) := by
  obtain ⟨h1, h2, h3, -⟩ := h
  unfold State.current
  simp [h1, h2, h3]

theorem State.current_eq {s : State} {p : Fin 4} {r : Request} (h : s.current = some (p, r)) :
    s.live = true ∧ s.interp = .executing p .fresh ∧ s.place p = .request r := by
  unfold State.current at h
  split at h <;> try contradiction
  split at h <;> try contradiction
  split at h <;> simp_all

/-- A request of a permitted length is carried out. -/
theorem State.serve_of_carries {s : State} {code : Byte} {p : Fin 4} {r : Request} (h : s.carries code p r)
    (hl : permittedLen code r.payload.length = true) (body : Fin 4 → Request → State) :
    s.serve code body = .next (body p r).uartBoundary := by
  have ht : r.typ = code := h.2.2.2
  simp [State.serve, State.current_of_carries h, ht, hl, State.done]

/-- The number a byte below the limit stands for. -/
theorem finOf_of {n : Nat} {b : Byte} {j : Fin n} (h : b.toNat = j.1) : finOf n b = some j := by
  unfold finOf
  have := j.2
  split
  · congr 1; exact Fin.ext h
  · omega

/-- The byte a job, target, channel, timer or line number stands as. -/
theorem natByte_toNat {n : Nat} (h : n < 256) : (natByte n).toNat = n := by
  simp [natByte, Nat.mod_eq_of_lt h]

/-- A request on a job of a permitted length is carried out on the job that its first byte names. -/
theorem State.serveJob_of_carries {s : State} {code : Byte} {p : Fin 4} {r : Request} {j : Fin 64} (h : s.carries code p r)
    (hl : permittedLen code r.payload.length = true) (hj : (byteAt r.payload 0).toNat = j.1)
    (body : Fin 4 → Request → Fin 64 → State) : s.serveJob code body = .next (body p r j).uartBoundary := by
  unfold State.serveJob
  rw [State.serve_of_carries h hl, finOf_of hj]

/-- A request of a length not permitted is answered BAD_LENGTH. -/
theorem State.serve_badLength {s : State} {code : Byte} {p : Fin 4} {r : Request} (h : s.carries code p r)
    (hl : permittedLen code r.payload.length = false) (body : Fin 4 → Request → State) :
    s.serve code body = .next (s.answered p r .badLength []).uartBoundary := by
  have ht : r.typ = code := h.2.2.2
  simp [State.serve, State.current_of_carries h, ht, hl, State.done, State.reply_eq]

/-- What serving a request can answer: a next state, in which nothing has happened, or the body has acted, or BAD_LENGTH has
been answered. -/
theorem State.serve_next (s : State) (code : Byte) (body : Fin 4 → Request → State) :
    ∃ t, s.serve code body = .next t ∧ (t = s ∨ ∃ p r, s.current = some (p, r) ∧ r.typ = code ∧
      ((permittedLen code r.payload.length = true ∧ t = (body p r).uartBoundary) ∨
        t = (s.answered p r .badLength []).uartBoundary)) := by
  unfold State.serve
  split
  · exact ⟨s, rfl, Or.inl rfl⟩
  · rename_i p r hc
    split
    · exact ⟨s, rfl, Or.inl rfl⟩
    · rename_i ht
      split
      · rename_i hl
        exact ⟨_, rfl, Or.inr ⟨p, r, hc, by simpa using ht, Or.inl ⟨hl, rfl⟩⟩⟩
      · exact ⟨_, rfl, Or.inr ⟨p, r, hc, by simpa using ht, Or.inr (by rw [State.reply_eq])⟩⟩

/-- What serving a request on a job can answer. -/
theorem State.serveJob_next (s : State) (code : Byte) (body : Fin 4 → Request → Fin 64 → State) :
    ∃ t, s.serveJob code body = .next t ∧ (t = s ∨ ∃ p r, s.current = some (p, r) ∧ r.typ = code ∧
      ((∃ j, finOf 64 (byteAt r.payload 0) = some j ∧ t = (body p r j).uartBoundary) ∨
        ∃ res, t = (s.answered p r res []).uartBoundary)) := by
  obtain ⟨t, e, h⟩ := s.serve_next code (fun p r =>
    match finOf 64 (byteAt r.payload 0) with
    | none => s.reply p r .badArg []
    | some j => body p r j)
  refine ⟨t, e, ?_⟩
  rcases h with h | ⟨p, r, hc, ht, ⟨-, h⟩ | h⟩
  · exact Or.inl h
  · refine Or.inr ⟨p, r, hc, ht, ?_⟩
    split at h
    · exact Or.inr ⟨_, by rw [h, State.reply_eq]⟩
    · rename_i j hj; exact Or.inl ⟨j, hj, h⟩
  · exact Or.inr ⟨p, r, hc, ht, Or.inr ⟨_, h⟩⟩

/-- An event of an engine, under its conditions. -/
theorem State.engineEvent_of {s : State} {c : Fin 4} {can : Bool} {x : Pass} (hs : s.timed = true) (hc : can = true)
    (hx : s.pass? c = some x) (f : Pass → State) : s.engineEvent c can f = .next (f x).uartBoundary := by
  simp [State.engineEvent, hs, hc, State.onPass, hx, State.done]

/-- What an event of an engine can answer: a next state, in which nothing has happened but a frame boundary, or f has acted on
the engine's pass. -/
theorem State.engineEvent_next (s : State) (c : Fin 4) (can : Bool) (f : Pass → State) :
    ∃ t, s.engineEvent c can f = .next t ∧
      (t = s ∨ t = s.uartBoundary ∨ ∃ x, s.pass? c = some x ∧ can = true ∧ t = (f x).uartBoundary) := by
  unfold State.engineEvent
  split
  · rename_i h
    simp only [Bool.and_eq_true] at h
    unfold State.onPass
    split
    · exact ⟨_, rfl, Or.inr (Or.inl rfl)⟩
    · rename_i x hx; exact ⟨_, rfl, Or.inr (Or.inr ⟨x, hx, h.2, rfl⟩)⟩
  · exact ⟨s, rfl, Or.inl rfl⟩

end Sys2Proof.Machine
end

