-- ==== Sys2Proof/Laws/InUse.lean ====
section
/-! SUPPORT. Which jobs come into use: no operation but a dispatch or a resumption makes a job RUNNING or SUSPENDED, and none
changes the active window of a job that is in use before and after it. One lemma per shared operation. -/
namespace Sys2Proof.Machine

/-- Every job in use in t, but perhaps job k, was in use in s with the same active window. -/
def UseBut (k : Option (Fin 64)) (s t : State) : Prop :=
  ∀ j, some j ≠ k → (t.job j).rt.state.inUse = true →
    (s.job j).rt.state.inUse = true ∧ (t.job j).rt.active = (s.job j).rt.active

theorem UseBut.refl (k : Option (Fin 64)) (s : State) : UseBut k s s := fun _ _ h => ⟨h, rfl⟩

theorem UseBut.trans {k : Option (Fin 64)} {s t u : State} (h : UseBut k s t) (g : UseBut k t u) : UseBut k s u :=
  fun j hj hu =>
    have h1 := g j hj hu
    have h2 := h j hj h1.1
    ⟨h2.1, h1.2.trans h2.2⟩

theorem UseBut.weaken {k : Option (Fin 64)} {s t : State} (h : UseBut none s t) : UseBut k s t :=
  fun j _ hu => h j (by simp) hu

/-- The exception falls away when the job is not in use after all. -/
theorem UseBut.close {k : Fin 64} {s t : State} (h : UseBut (some k) s t) (hk : (t.job k).rt.state.inUse = false) :
    UseBut none s t := by
  intro j _ hu
  by_cases e : j = k
  · subst e; rw [hk] at hu; exact absurd hu (by simp)
  · exact h j (by simpa using e) hu

theorem UseBut.of_jobs {k : Option (Fin 64)} {s t : State} (h : t.jobs = s.jobs) : UseBut k s t := by
  intro j _ hu
  have e : t.job j = s.job j := by simp [State.job, h]
  rw [e] at hu ⊢; exact ⟨hu, rfl⟩

theorem LinkSide.use {k : Option (Fin 64)} {s t : State} (h : LinkSide s t) : UseBut k s t := .of_jobs h.jobs

theorem UseBut.foldl {α : Type} {k : Option (Fin 64)} (f : State → α → State) (hf : ∀ s a, UseBut k s (f s a))
    (l : List α) : ∀ s, UseBut k s (l.foldl f s) := by
  induction l with
  | nil => exact UseBut.refl k
  | cons a l ih => intro s; exact (hf s a).trans (ih (f s a))

/-- Replacing one job's runtime part: other jobs are as they were. -/
theorem State.setRt_use (s : State) (j : Fin 64) (r : Runtime) : UseBut (some j) s (s.setRt j r) := by
  intro i hi hu
  have e : i ≠ j := by simpa using hi
  rw [State.job_setRt_ne _ (Ne.symm e)] at hu ⊢
  exact ⟨hu, rfl⟩

/-- A runtime part that is not in use, or in use as before with the same active window. -/
theorem State.setRt_use_none (s : State) (j : Fin 64) (r : Runtime)
    (h : r.state.inUse = true → (s.job j).rt.state.inUse = true ∧ r.active = (s.job j).rt.active) :
    UseBut none s (s.setRt j r) := by
  intro i _ hu
  by_cases e : i = j
  · subst e; simp only [State.job_setRt_self] at hu ⊢; exact h hu
  · rw [State.job_setRt_ne _ (Ne.symm e)] at hu ⊢; exact ⟨hu, rfl⟩

theorem State.setArb_use (k : Option (Fin 64)) (s : State) (c : Fin 4) (a : Arbiter) : UseBut k s (s.setArb c a) := .of_jobs rfl
theorem State.setEng_use (k : Option (Fin 64)) (s : State) (c : Fin 4) (e : Engine) : UseBut k s (s.setEng c e) := .of_jobs rfl
theorem State.setMem_use (k : Option (Fin 64)) (s : State) (m : Memory) : UseBut k s (s.setMem m) := .of_jobs rfl
theorem State.hand_use (k : Option (Fin 64)) (s : State) (n : Notice) : UseBut k s (s.hand n) := .of_jobs rfl

theorem State.choiceDueFor_jobs (s : State) (j : Fin 64) : (s.choiceDueFor j).jobs = s.jobs := by
  unfold State.choiceDueFor; split <;> rfl

theorem State.job_of_jobs {s t : State} (h : t.jobs = s.jobs) (j : Fin 64) : t.job j = s.job j := by simp [State.job, h]

/-! ### Triggers and endings -/

theorem State.trigger_use (s : State) (j : Fin 64) : UseBut none s (s.trigger j) := by
  unfold State.trigger; split
  · exact .refl _ s
  · exact (s.setRt_use_none j _ (by simp [JobState.inUse])).trans (.of_jobs (State.choiceDueFor_jobs _ j))
  · exact s.setRt_use_none j _ (fun h => ⟨h, rfl⟩)
  · refine UseBut.trans ?_ (State.hand_use _ _ _)
    exact s.setRt_use_none j _ (fun h => ⟨h, rfl⟩)

theorem State.triggerAll_use (s : State) (src : TrigSource) : UseBut none s (s.triggerAll src) :=
  UseBut.foldl _ State.trigger_use _ s

theorem State.fire_use (s : State) (l : Option (Fin 64)) : UseBut none s (s.fire l) := by
  cases l
  · exact .refl _ s
  · exact s.trigger_use _

theorem State.passEndState_job (s : State) (j : Fin 64) : ((s.passEndState j).job j).rt.state.inUse = false := by
  unfold State.passEndState; split
  · rw [State.job_of_jobs (State.choiceDueFor_jobs _ j)]; simp [JobState.inUse]
  · simp [JobState.inUse]

theorem State.passEndState_use (s : State) (j : Fin 64) : UseBut (some j) s (s.passEndState j) := by
  unfold State.passEndState; split
  · exact (s.setRt_use j _).trans (.of_jobs (State.choiceDueFor_jobs _ j))
  · exact s.setRt_use j _

theorem State.passEnd_use (s : State) (j : Fin 64) (d : JobDef) (o : PassOutcome) : UseBut none s (s.passEnd j d o) := by
  unfold State.passEnd
  refine UseBut.close (k := j) ?_ (State.passEndState_job _ j)
  refine UseBut.trans ?_ (State.passEndState_use _ j)
  split
  · exact ((s.setRt_use j _).trans (State.fire_use _ _).weaken).trans (State.hand_use _ _ _)
  · exact (s.setRt_use j _).trans (State.fire_use _ _).weaken

theorem State.cancelledEnding_use (s : State) (j : Fin 64) : UseBut none s (s.cancelledEnding j) :=
  (s.hand_use _ _).trans (State.setRt_use_none _ _ _ (by simp [Runtime.cancelled, JobState.inUse]))

theorem State.haltJob_use (s : State) (c : Fin 4) (j : Fin 64) (f : JobFault) : UseBut none s (s.haltJob c j f) :=
  (s.setRt_use_none j _ (by simp [Runtime.halt, JobState.inUse])).trans (State.hand_use _ _ _)

theorem State.faultEnding_use (s : State) (j : Fin 64) (d : JobDef) (f : JobFault) :
    UseBut none s (s.faultEnding j d f) := (s.haltJob_use _ j f).trans (State.fire_use _ _)

theorem State.suspend_use (s : State) (c : Fin 4) (j : Fin 64) : UseBut none s (s.suspend c j) := by
  unfold State.suspend; split
  · rename_i h
    refine UseBut.trans ?_ (State.setArb_use _ _ _ _)
    exact s.setRt_use_none j _ (fun _ => ⟨by rw [h]; rfl, rfl⟩)
  · exact .refl _ s

theorem State.applyEnding_use (s : State) (c : Fin 4) (j : Fin 64) (d : JobDef) (r : LagReason) :
    UseBut none s (s.applyEnding c j d r) := by
  unfold State.applyEnding; split
  · exact s.faultEnding_use j d _
  · exact s.cancelledEnding_use j
  · exact s.cancelledEnding_use j
  · split
    · exact s.cancelledEnding_use j
    · exact s.passEnd_use j d _
  · split
    · exact s.cancelledEnding_use j
    · exact s.suspend_use c j

/-! ### The engine -/

theorem State.finishPass_use (s : State) (x : Pass) (r : LagReason) : UseBut none s (s.finishPass x r) :=
  (s.setEng_use _ _ _).trans ((State.applyEnding_use _ _ _ _ _).trans (State.setArb_use _ _ _ _))

theorem State.enterLag_use (s : State) (x : Pass) (r : LagReason) : UseBut none s (s.enterLag x r) := by
  unfold State.enterLag; split
  · exact s.finishPass_use x r
  · exact s.setEng_use _ _ _

theorem State.startShift_use (s : State) (x : Pass) : UseBut none s (s.startShift x) := s.setEng_use _ _ _

theorem State.afterBusy_use (s : State) (x : Pass) : UseBut none s (s.afterBusy x) := by
  unfold State.afterBusy; repeat' split
  · exact s.startShift_use x
  · exact s.enterLag_use x _
  · exact s.enterLag_use x _
  · exact s.startShift_use x

theorem State.enterBusy_use (s : State) (x : Pass) : UseBut none s (s.enterBusy x) := by
  unfold State.enterBusy; split
  · exact s.afterBusy_use x
  · exact s.setEng_use _ _ _

theorem State.unitSteps_use (s : State) (x : Pass) : UseBut none s (s.unitSteps x) := by
  unfold State.unitSteps; simp only; split
  · exact (s.setEng_use _ x.chan _).trans (State.enterLag_use _ x _)
  · exact (s.setEng_use _ x.chan _).trans (State.enterBusy_use _ x)

theorem State.enterGap_use (s : State) (x : Pass) : UseBut none s (s.enterGap x) := by
  unfold State.enterGap; split
  · exact s.startShift_use x
  · exact s.setEng_use _ _ _

theorem State.waitForStore_use (s : State) (x : Pass) : UseBut none s (s.waitForStore x) := s.setEng_use _ _ _

theorem State.countByte_use (s : State) (x : Pass) : UseBut none s (s.countByte x) :=
  (s.setEng_use _ _ _).trans (State.setRt_use_none _ _ _ (fun h => ⟨h, rfl⟩))

theorem State.afterByte_use (s : State) (x : Pass) : UseBut none s (s.afterByte x) := by
  unfold State.afterByte; simp only; repeat' split
  all_goals first
    | exact s.waitForStore_use x
    | exact s.enterLag_use x _
    | exact s.enterGap_use x
    | exact s.unitSteps_use x

theorem State.afterStore_use (s : State) (x : Pass) : UseBut none s (s.afterStore x) := by
  unfold State.afterStore; simp only; repeat' split
  all_goals first
    | exact .refl _ s
    | exact s.enterLag_use x _
    | exact s.unitSteps_use x

theorem State.leadDone_use (s : State) (x : Pass) : UseBut none s (s.leadDone x) := by
  unfold State.leadDone; split
  · exact s.enterLag_use x _
  · exact s.enterBusy_use x

theorem State.assertSelect_use (s : State) (x : Pass) : UseBut none s (s.assertSelect x) := by
  unfold State.assertSelect; simp only; split
  · exact (s.setEng_use _ x.chan _).trans (State.leadDone_use _ x)
  · exact s.setEng_use _ _ _

theorem State.selectTarget_use (s : State) (x : Pass) : UseBut none s (s.selectTarget x) := by
  unfold State.selectTarget; simp only; split
  · exact (s.setEng_use _ x.chan _).trans (State.assertSelect_use _ x)
  · exact s.setEng_use _ _ _

theorem State.startPass_use (s : State) (x : Pass) : UseBut none s (s.startPass x) :=
  (s.setEng_use _ x.chan _).trans (State.selectTarget_use _ x)

theorem State.enterPollWait_use (s : State) (x : Pass) : UseBut none s (s.enterPollWait x) := by
  unfold State.enterPollWait; split
  · exact s.startPass_use x
  · exact s.setEng_use _ _ _

theorem State.countAttempt_use (s : State) (x : Pass) (b : Byte) : UseBut none s (s.countAttempt x b) :=
  s.setRt_use_none _ _ (fun h => ⟨h, rfl⟩)

theorem State.settleAttempt_use (s : State) (x : Pass) : UseBut none s (s.settleAttempt x) := by
  unfold State.settleAttempt
  refine (s.countAttempt_use x ((s.eng x.chan).inByte.getD 0)).trans ?_
  simp only
  repeat' split
  · exact State.finishPass_use _ x _
  · exact State.finishPass_use _ x _
  · exact State.finishPass_use _ x _
  · exact State.finishPass_use _ x _
  · exact State.enterPollWait_use _ x

theorem State.enterAttemptLag_use (s : State) (x : Pass) : UseBut none s (s.enterAttemptLag x) := by
  unfold State.enterAttemptLag; split
  · exact s.settleAttempt_use x
  · exact s.setEng_use _ _ _

theorem State.carryCancel_use (s : State) (x : Pass) : UseBut none s (s.carryCancel x) := by
  unfold State.carryCancel; simp only; split
  · exact s.enterLag_use x _
  · split
    · exact s.waitForStore_use x
    · exact s.enterLag_use x _
  · exact s.finishPass_use x _
  all_goals exact .refl _ s

theorem State.stopEngine_use (s : State) (c : Fin 4) : UseBut none s (s.stopEngine c) := by
  unfold State.stopEngine; simp only
  refine UseBut.trans ?_ (State.setEng_use _ _ _ _)
  split
  · exact .refl _ s
  · rename_i x _
    unfold State.storeAtStop; split
    · exact .refl _ s
    · refine UseBut.trans ?_ (State.countByte_use _ x)
      exact State.setMem_use _ _ _

theorem State.endStored_use (s : State) (x : Pass) (b : Byte) : UseBut none s (s.endStored x b) := by
  unfold State.endStored; simp only; repeat' split
  · exact s.countByte_use x
  · exact s.setEng_use _ _ _
  · exact s.setEng_use _ _ _

theorem State.endByte_use (s : State) (x : Pass) (b : Byte) : UseBut none s (s.endByte x b) := by
  unfold State.endByte; simp only; split
  · exact (s.setEng_use _ x.chan _).trans (State.enterAttemptLag_use _ x)
  · refine UseBut.trans ?_ (State.afterByte_use _ x)
    split
    · exact (s.setEng_use _ x.chan _).trans (State.countByte_use _ x)
    · exact (s.setEng_use _ x.chan _).trans (State.setEng_use _ _ _ _)
    · exact (s.setEng_use _ x.chan _).trans (State.endStored_use _ x b)
    · exact (s.setEng_use _ x.chan _).trans (State.endStored_use _ x b)

theorem State.lagDone_use (s : State) (x : Pass) : UseBut none s (s.lagDone x) := by
  unfold State.lagDone; split
  · exact .refl _ s
  · exact s.settleAttempt_use x
  · exact s.finishPass_use x _

theorem State.bitsArrived_use (s : State) (x : Pass) (b : Byte) : UseBut none s (s.bitsArrived x b) := by
  unfold State.bitsArrived; simp only; repeat' split
  all_goals exact .refl _ s

theorem State.onPass_use (s : State) (c : Fin 4) (f : Pass → State) (hf : ∀ x, UseBut none s (f x)) :
    UseBut none s (s.onPass c f) := by
  unfold State.onPass; split
  · exact .refl _ s
  · exact hf _

/-! ### Requests on jobs and channels -/

theorem State.cancelRunning_use (s : State) (j : Fin 64) : UseBut none s (s.cancelRunning j) := by
  unfold State.cancelRunning; split
  · exact .refl _ s
  · have h := s.setRt_use_none j { (s.job j).rt with cancel := true } (fun h => ⟨h, rfl⟩)
    simp only
    split
    · exact h
    · refine h.trans (State.onPass_use _ _ _ (fun x => ?_))
      split
      · exact State.carryCancel_use _ x
      · exact .refl _ _

theorem State.cancelSuspended_use (s : State) (j : Fin 64) : UseBut none s (s.cancelSuspended j) := by
  unfold State.cancelSuspended; simp only; split
  · exact s.cancelledEnding_use j
  · exact (s.cancelledEnding_use j).trans (State.setArb_use _ _ _ _)

theorem State.abortJob_use (s : State) (c : Fin 4) (o : Option (Fin 64)) : UseBut none s (s.abortJob c o) := by
  cases o
  · exact .refl _ s
  · exact s.haltJob_use c _ _

theorem State.abortChannel_use (s : State) (c : Fin 4) : UseBut none s (s.abortChannel c) := by
  unfold State.abortChannel
  refine UseBut.trans ?_ (State.setArb_use _ _ _ _)
  refine UseBut.trans ?_
    (UseBut.foldl _ (fun s j => s.setRt_use_none j _ (fun h => absurd h (by simp [JobState.inUse]))) _ _)
  exact (s.stopEngine_use c).trans ((State.abortJob_use _ c _).trans (State.abortJob_use _ c _))

/-! ### Dispatch -/

/-- A dispatch brings into use job j alone; the active window is kept. -/
theorem State.dispatch_use (s : State) (c : Fin 4) (j : Fin 64) :
    UseBut (some j) s (s.dispatch c j) ∧
      (((s.dispatch c j).job j).rt.state.inUse = true → ((s.dispatch c j).job j).rt.active = (s.job j).rt.active) := by
  unfold State.dispatch; split
  · exact ⟨.refl _ s, fun _ => rfl⟩
  · have h := State.startPass_use
      (s.setRt j { (s.job j).rt with state := .running, progress := 0 })
      { chan := c, job := j, defn := ‹_›, prof := s.target ‹JobDef›.target }
    refine ⟨(s.setRt_use j _).trans h.weaken, fun hu => ?_⟩
    have h1 := (h j (by simp) hu).2
    simpa using h1

/-- A resumption brings no job into use: the job was SUSPENDED. -/
theorem State.resume_use (s : State) (c : Fin 4) (j : Fin 64) : UseBut none s (s.resume c j) := by
  unfold State.resume; split
  · rename_i d hd hs
    refine UseBut.trans ?_ (State.startPass_use _ _)
    refine UseBut.trans ?_ (State.setRt_use_none _ j _ (fun _ => ⟨?_, rfl⟩))
    · exact s.setArb_use _ c _
    · simp [hs, JobState.inUse]
  · exact .refl _ s

/-- What a choice takes: no job, or the suspended one, or an unblocked READY one. -/
theorem State.choose_cases (s : State) (c : Fin 4) :
    s.choose c = s ∨ (∃ j, s.choose c = s.resume c j) ∨
      ∃ j k, s.choose c = s.dispatch c j ∧ s.isReady c k j = true ∧ s.blocked j = false := by
  unfold State.choose
  have hf : ∀ k j, s.firstUnblocked c k = some j → s.isReady c k j = true ∧ s.blocked j = false := by
    intro k j h
    have := List.find?_some h
    simpa using this
  repeat' split
  · rename_i j h; exact Or.inr (Or.inr ⟨j, .urgent, rfl, hf _ _ h⟩)
  · rename_i j h; exact Or.inr (Or.inl ⟨j, rfl⟩)
  · rename_i j h; exact Or.inr (Or.inr ⟨j, .normal, rfl, hf _ _ h⟩)
  · exact Or.inl rfl

end Sys2Proof.Machine
end

