-- ==== Sys2Proof/Laws/Passes.lean ====
section
/-! SUPPORT. The small lemmas of the invariants on passes and on the flags of jobs (Sys2Proof/Safety.lean): what they read of
State, what an ending can change of what they read, and what an engine's asks and its next byte can be. -/
namespace Sys2Proof.Machine

/-! ### Flags of jobs -/

@[simp] theorem Runtime.takeSwap_swap (r : Runtime) : r.takeSwap.swap = false := by
  unfold Runtime.takeSwap
  split
  · rfl
  · simpa using ‹¬r.swap = true›

@[simp] theorem Runtime.takeSwap_cancel (r : Runtime) : r.takeSwap.cancel = r.cancel := by
  unfold Runtime.takeSwap; split <;> rfl

@[simp] theorem Runtime.takeSwap_pending (r : Runtime) : r.takeSwap.pending = r.pending := by
  unfold Runtime.takeSwap; split <;> rfl

@[simp] theorem Runtime.takeSwap_state (r : Runtime) : r.takeSwap.state = r.state := by
  unfold Runtime.takeSwap; split <;> rfl

@[simp] theorem Runtime.takeSwap_progress (r : Runtime) : r.takeSwap.progress = r.progress := by
  unfold Runtime.takeSwap; split <;> rfl

theorem Runtime.lawful_free : Runtime.free.lawful := by decide

theorem Runtime.lawful_cancelled (r : Runtime) : r.cancelled.lawful := by simp [Runtime.lawful, Runtime.cancelled]

theorem Runtime.lawful_halt (r : Runtime) (f : JobFault) : (r.halt f).lawful := by simp [Runtime.lawful, Runtime.halt]

theorem State.runtimesLawful_of_jobs {s t : State} (h : s.runtimesLawful) (e : t.jobs = s.jobs) : t.runtimesLawful := by
  intro j
  rw [show t.job j = s.job j by simp [State.job, e]]
  exact h j

theorem State.runtimesLawful_setRt {s : State} {j : Fin 64} {r : Runtime} (h : s.runtimesLawful) (hr : r.lawful) :
    (s.setRt j r).runtimesLawful := by
  intro k
  rw [State.job_setRt]
  split
  · exact hr
  · exact h k

/-! ### Bounds of a definition -/

theorem JobDef.bound_poll {d : JobDef} (h : d.kind = .poll) : d.bound = d.retryLimit.toNat := if_pos h

theorem JobDef.bound_of_ne_poll {d : JobDef} (h : d.kind ≠ .poll) : d.bound = d.winA.len := if_neg h

/-! ### What an engine asks for -/

/-- A byte that waits for its read is one of the window, of a kind that sends (R146, R147). -/
theorem nextOut_waiting {d : JobDef} {p k : Nat} (h : nextOut d p = .waiting k) : d.kind ≠ .receive ∧ k < d.winA.len := by
  unfold nextOut at h
  split at h
  · split at h <;> simp_all
  · split at h <;> simp_all
  · split at h <;> simp_all
  · split at h
    · simp_all
    · split at h <;> simp_all

theorem OutByte.asks_count_read (o : OutByte) : o.asks.count .read = o.reads := by cases o <;> rfl

theorem OutByte.asks_no_store (o : OutByte) : o.asks.countP (fun a => decide (a ≠ .read)) = 0 := by cases o <;> rfl

theorem Engine.storeWaiting_pop_read {e : Engine} {rest : List Ask} (h : e.asks = .read :: rest) :
    ({ e with asks := rest } : Engine).storeWaiting = e.storeWaiting := by
  unfold Engine.storeWaiting
  rw [h]
  rfl

theorem Engine.storeWaiting_push {e : Engine} (h : e.storeWaiting = none) (b : Byte) :
    ({ e with asks := e.asks ++ [.store b] } : Engine).storeWaiting = some b := by
  unfold Engine.storeWaiting at h ⊢
  simp only [List.findSome?_append]
  rw [h]
  rfl

theorem Engine.storeWaiting_pop_store {e : Engine} {b : Byte} {rest : List Ask} (h : e.asks = .store b :: rest)
    (one : e.asks.countP (fun a => decide (a ≠ .read)) ≤ 1) :
    ({ e with asks := rest } : Engine).storeWaiting = none := by
  rw [h] at one
  simp at one
  unfold Engine.storeWaiting
  rw [List.findSome?_eq_none_iff]
  intro a ha
  have := one a ha
  subst this
  rfl

theorem Engine.no_store_asked {e : Engine} (h : e.storeWaiting = none) :
    e.asks.countP (fun a => decide (a ≠ .read)) = 0 := by
  rw [List.countP_eq_zero]
  intro a ha
  simp only [Engine.storeWaiting, List.findSome?_eq_none_iff] at h
  have := h a ha
  cases a <;> simp_all

/-- What BYTE_END and LAST_BIT_ARRIVED find where they act (R148, R149). -/
theorem Engine.byteCanEnd_spec {e : Engine} (h : e.byteCanEnd = true) :
    e.state = .shift ∧ e.ended = false ∧ (∀ k, e.cur ≠ .waiting k) ∧ (e.inByte ≠ none ∨ e.storeWaiting = none) := by
  simp only [Engine.byteCanEnd, Bool.and_eq_true, decide_eq_true_eq, Bool.or_eq_true, Bool.not_eq_true'] at h
  refine ⟨h.1.1.1, h.1.1.2, ?_, ?_⟩
  · intro k hk
    have := h.1.2
    rw [hk] at this
    cases this
  · rcases h.2 with h | h
    · exact .inl (fun e => by rw [e] at h; cases h)
    · exact .inr (by simpa using h)

/-! ### Lawful engines and passes -/

/-- Of the runtime part an engine's lawfulness reads the progress and the cancel requested. -/
theorem Engine.Lawful.congr {e : Engine} {d : JobDef} {r r' : Runtime} (h : e.Lawful d r) (hp : r'.progress = r.progress)
    (hc : r'.cancel = r.cancel) : e.Lawful d r' :=
  { h with
    attempts := by rw [hp]; exact h.attempts
    bytes := by simpa [Engine.bytesShifted, hp] using h.bytes
    byteLeft := by simpa [Engine.bytesShifted, hp] using h.byteLeft
    endedGap := by rw [hc]; exact h.endedGap
    reason := fun l hl => by
      have := h.reason l hl
      cases l <;> simp_all [LagReason.lawful] }

/-- The interval is not read. -/
theorem Engine.Lawful.afterClock {e : Engine} {d : JobDef} {r : Runtime} (h : e.Lawful d r) (tick : Bool) :
    (e.afterClock tick).Lawful d r := by
  unfold Engine.afterClock
  split
  · exact { h with }
  · exact h

/-- PassesLawful reads the engines and the job table alone. -/
theorem State.PassesLawful.of_parts {s t : State} (h : s.PassesLawful) (engs : t.engs = s.engs) (jobs : t.jobs = s.jobs) :
    t.PassesLawful := by
  have a : ∀ j, t.job j = s.job j := fun j => by simp [State.job, jobs]
  have b : ∀ c, t.eng c = s.eng c := fun c => by simp [State.eng, engs]
  constructor <;> simp only [a, b]
  · exact h.progress
  · exact h.suspended
  · exact h.engine

/-! ### What an ending changes -/

/-- From s to t the runtime parts alone have changed, no progress among them; of jobs other than j neither a cancel requested,
and none has become SUSPENDED. -/
structure EndingFrame (j : Fin 64) (s t : State) : Prop where
  engs : t.engs = s.engs
  defn : ∀ k, (t.job k).defn = (s.job k).defn
  progress : ∀ k, (t.job k).rt.progress = (s.job k).rt.progress
  cancel : ∀ k, k ≠ j → (t.job k).rt.cancel = (s.job k).rt.cancel
  suspended : ∀ k, k ≠ j → (t.job k).rt.state = .suspended → (s.job k).rt.state = .suspended

namespace EndingFrame

variable {j : Fin 64} {s t u : State}

theorem refl (j : Fin 64) (s : State) : EndingFrame j s s :=
  ⟨rfl, fun _ => rfl, fun _ => rfl, fun _ _ => rfl, fun _ _ h => h⟩

theorem trans (h : EndingFrame j s t) (k : EndingFrame j t u) : EndingFrame j s u :=
  ⟨k.engs.trans h.engs, fun a => (k.defn a).trans (h.defn a), fun a => (k.progress a).trans (h.progress a),
    fun a e => (k.cancel a e).trans (h.cancel a e), fun a e x => h.suspended a e (k.suspended a e x)⟩

theorem of_parts (engs : t.engs = s.engs) (jobs : t.jobs = s.jobs) : EndingFrame j s t := by
  constructor <;> simp_all [State.job]

theorem setRt {r : Runtime} (h : r.progress = (s.job j).rt.progress) : EndingFrame j s (s.setRt j r) where
  engs := rfl
  defn k := by simp
  progress k := by
    rw [State.job_setRt]
    split
    · subst k; exact h
    · rfl
  cancel k e := by rw [State.job_setRt_ne _ (Ne.symm e)]
  suspended k e := by rw [State.job_setRt_ne _ (Ne.symm e)]; exact id

/-- An update of any job that keeps its progress and its cancel requested, and does not suspend it. -/
theorem setRt_any {k : Fin 64} {r : Runtime} (hp : r.progress = (s.job k).rt.progress) (hc : r.cancel = (s.job k).rt.cancel)
    (hs : r.state = .suspended → (s.job k).rt.state = .suspended) : EndingFrame j s (s.setRt k r) := by
  refine ⟨rfl, fun _ => by simp, fun i => ?_, fun i _ => ?_, fun i _ => ?_⟩ <;> rw [State.job_setRt] <;> split
  · subst i; exact hp
  · rfl
  · subst i; exact hc
  · rfl
  · subst i; exact hs
  · exact id

theorem hand (j : Fin 64) (s : State) (n : Notice) : EndingFrame j s (s.hand n) := of_parts rfl rfl

theorem setArb (j : Fin 64) (s : State) (c : Fin 4) (a : Arbiter) : EndingFrame j s (s.setArb c a) := of_parts rfl rfl

theorem choiceDueFor (j : Fin 64) (s : State) (k : Fin 64) : EndingFrame j s (s.choiceDueFor k) := by
  refine of_parts ?_ (State.choiceDueFor_jobs _ _)
  unfold State.choiceDueFor
  split <;> rfl

theorem trigger (j : Fin 64) (s : State) (k : Fin 64) : EndingFrame j s (s.trigger k) := by
  unfold State.trigger
  split
  · exact refl _ _
  · refine trans ?_ (choiceDueFor _ _ _)
    exact setRt_any rfl rfl (by simp)
  · exact setRt_any rfl rfl (by simp)
  · refine trans ?_ (hand _ _ _)
    exact setRt_any rfl rfl (by simp)

theorem fire (j : Fin 64) (s : State) (l : Option (Fin 64)) : EndingFrame j s (s.fire l) := by
  unfold State.fire
  split
  · exact refl _ _
  · exact trigger _ _ _

theorem passEndState (s : State) (j : Fin 64) : EndingFrame j s (s.passEndState j) := by
  unfold State.passEndState
  split
  · refine trans ?_ (choiceDueFor _ _ _)
    exact setRt rfl
  · exact setRt rfl

theorem passEnd (s : State) (j : Fin 64) (d : JobDef) (o : PassOutcome) : EndingFrame j s (s.passEnd j d o) := by
  unfold State.passEnd
  refine (setRt (r := (s.job j).rt.countPass o.ending) (by simp [Runtime.countPass])).trans ((fire j _ (o.link d)).trans ?_)
  split
  · exact (hand j _ _).trans (passEndState _ _)
  · exact passEndState _ _

theorem cancelledEnding (s : State) (j : Fin 64) : EndingFrame j s (s.cancelledEnding j) :=
  trans (hand j s (s.jobDone j .cancelled)) (setRt (by simp [Runtime.cancelled, State.hand]))

theorem haltJob (s : State) (c : Fin 4) (j : Fin 64) (f : JobFault) : EndingFrame j s (s.haltJob c j f) := by
  refine trans ?_ (hand _ _ _)
  exact setRt rfl

theorem faultEnding (s : State) (j : Fin 64) (d : JobDef) (f : JobFault) : EndingFrame j s (s.faultEnding j d f) :=
  (haltJob ..).trans (fire ..)

theorem suspend (s : State) (c : Fin 4) (j : Fin 64) : EndingFrame j s (s.suspend c j) := by
  unfold State.suspend
  split
  · refine trans ?_ (setArb _ _ _ _)
    exact setRt rfl
  · exact refl _ _

/-- What the hand-over of an ending can change of the job table. -/
theorem applyEnding (s : State) (c : Fin 4) (j : Fin 64) (d : JobDef) (r : LagReason) :
    EndingFrame j s (s.applyEnding c j d r) := by
  unfold State.applyEnding
  repeat' split
  · exact faultEnding ..
  · exact cancelledEnding ..
  · exact cancelledEnding ..
  · exact cancelledEnding ..
  · exact passEnd ..
  · exact cancelledEnding ..
  · exact suspend ..

end EndingFrame

end Sys2Proof.Machine
end

