-- ==== Sys2Proof/WellFormed.lean ====
section
/-! DEFINITION. Which commands lie inside the manual's operating conditions. Channel, timer and line numbers are bounded by
their types; the one condition left is the low time of RSTn (R2, Electrical Figures). -/
namespace Sys2Proof

/-- A command is well formed. RSTN_RISE asks for the low time of at least 10 µs that R2 asks for. -/
def Instr.wellFormed : Instr → Bool
  | .rstnRise lowMicros _ _ _ => decide (Config.minResetMicros ≤ lowMicros)
  | .rstnLow | .startUpClearComplete _ _ | .uartCharacterComplete _ _ | .silenceAbort | .lselnFall | .lselnRise
  | .spiByteComplete _ _ | .uartByteSent | .unknownRequestType | .identify | .status | .reset | .noticeControl
  | .targetSet | .targetGet | .memWrite | .memWriteDone | .memRead | .memReadDone | .memoryGrant | .jobDefine
  | .jobGet | .jobStatus | .jobRelease | .jobStart | .jobCancel | .jobClear | .jobSwap | .channelHold | .channelAbort
  | .timerSet | .lineSet | .timerExpiry _ | .lineEdge _ _ | .freshChoice _ | .selectAssertion _ | .leadEnd _
  | .busyReady _ | .busyTimeout _ | .byteEnd _ _ | .gapEnd _ | .unitEndComplete _ | .lagEnd _ | .pollIntervalEnd _
  | .coreClockStops | .coreClockReturns | .busyLevelSeen _ _ | .lastBitArrived _ _ => true

end Sys2Proof
end

