-- ==== Sys2Proof/Tests/Slice0.lean ====
section
/-! SUPPORT. The model's own tests: the ill-formed command refused, one step of each kind of command against what the manual
says of it, and for each statement states and operands that meet its hypotheses. -/
namespace Sys2Proof.Tests

-- Each test waits for the kernel: one at a time, since a hundred waiting threads exceed the memory limit.
set_option Elab.async false
open Host Sys2Proof.Machine

/-! ### Small states -/

/-- Normal operation right after the start-up, nothing queued, in UART or SPI mode. -/
def live (spi : Bool) : State :=
  { State.reset with rstnLow := false, phase := .running, straps := { spi := spi, br1 := false, br0 := false } }

/-- A request as the interpreter holds it. -/
def req (typ : Byte) (payload : List Byte) : Request := { tag := 0x42, typ := typ, payload := payload, claimHeld := false }

/-- The interpreter holds the request in place 0. -/
def holding (typ : Byte) (payload : List Byte) : State :=
  { live false with
    interp := .executing 0 .fresh
    link := { Link.powerOn with places := Link.powerOn.places.set 0 (.request (req typ payload)) } }

/-- A definition on target 1, which is on channel 0, with window A at 0100h, four bytes. -/
def defOf (kind : Kind) (winB : Option Window) : JobDef :=
  { target := 1, kind := kind, cls := .normal, winA := { start := 0x100, len := 4 }, winB := winB, fill := 0x55, segment := 0
    source := .none, success := none, failure := none, notify := true, pollMask := 0, pollMatch := 0, retryLimit := 0
    interval := 0 }

/-- A SEND job. -/
def sendDef : JobDef := defOf .send none

/-- A POLL job with at most two attempts, waiting for bit 0. -/
def pollDef : JobDef := { defOf .poll none with pollMask := 1, pollMatch := 1, retryLimit := 2, interval := 10 }

/-- An EXCHANGE job that receives at 0200h. -/
def exchangeDef : JobDef := defOf .exchange (some { start := 0x200, len := 4 })

/-- Job 5 with the definition, in the state. -/
def withJob (s : State) (d : JobDef) (st : JobState) : State :=
  s.setJob 5 { defn := some d, rt := { Runtime.free with state := st } }

/-- A request on job 5, which runs a SEND definition and is in the state. -/
def onJob (typ : Byte) (st : JobState) : State := withJob (holding typ [5]) sendDef st

/-- Channel 0 carries out a pass of job 5, its engine in the state. -/
def inPass (d : JobDef) (st : EngState) : State :=
  (withJob (live false) d .running).setEng 0
    { Engine.powerOn with state := st, job := some 5, served := some 1, asserted := true }

/-- The pass of `inPass`. -/
def passOf (d : JobDef) : Pass := { chan := 0, job := 5, defn := d, prof := .default }

/-- The next state a command leads to. -/
def after (i : Instr) (s : State) : Option State :=
  match exec i s with
  | .next t => some t
  | .fault _ => none
  | .refused _ => none

/-- The fault a command stops with. -/
def stop (i : Instr) (s : State) : Option Fault :=
  match exec i s with
  | .fault f => some f
  | .next _ => none
  | .refused _ => none

/-- The payload of the answer that stands in place 0 after a command. -/
def answer (i : Instr) (s : State) : Option (List Byte) :=
  (after i s).bind fun t =>
    match t.place 0 with
    | .answered _ a => some a.payload
    | .empty | .request _ | .replayed _ => none

/-! ### Well-formedness -/

theorem test_wellFormed_low_time : (Instr.rstnRise 10 false false false).wellFormed = true := by decide
theorem test_illFormed_low_time : (Instr.rstnRise 9 false false false).wellFormed = false := by decide
theorem test_no_word_spells_a_command : decodeTableWord 8 0 = none := by decide

/-! ### Start-up and the link -/

theorem test_rstnRise_short : stop (.rstnRise 9 true false false) State.reset = some .resetTooShort := by decide +kernel
theorem test_rstnRise : (after (.rstnRise 10 true false true) State.reset).map (fun t => (t.phase, t.straps)) =
    some (.startUp, { spi := true, br1 := false, br0 := true }) := by decide +kernel
theorem test_startUpClearComplete :
    (after (.startUpClearComplete 0b0010 0) { live true with phase := .startUp }).map
      (fun t => (t.phase, (t.line 1).seen, (t.line 0).seen, t.notices.records, t.attnActive)) =
    some (.running, some true, some false, [.started .power], true) := by decide +kernel
theorem test_rstnLow : (after .rstnLow (inPass sendDef .lag)).map (fun t => (t.selActive 0 1, (t.job 5).rt.state, t.phase)) =
    some (false, .free, .held) := by decide +kernel
theorem test_crc_of_123456789 : crcOf [0x31, 0x32, 0x33, 0x34, 0x35, 0x36, 0x37, 0x38, 0x39] = 0x29B1 := by decide +kernel
theorem test_status_frame_received :
    ((frameBytes 0x42 0x02 [0]).foldl State.rxByte (live false)).place 0 = .request (req 0x02 [0]) := by decide +kernel
theorem test_uartCharacter_framing_fault :
    (after (.uartCharacterComplete 0 false) ((live false).rxByte 0xA5)).map (·.link.formatErrors) = some 1 := by decide +kernel
theorem test_silence_in_hunt : after .silenceAbort (live false) = some (live false) := by decide +kernel
theorem test_lselnFall_fill : (after .lselnFall (live true)).map (·.ltx) = some (.shifting 0) := by decide +kernel
theorem test_lselnRise_inside_frame :
    (after .lselnRise (State.rxByte { live true with spi := { lselnLow := true, ignored := false, slot := some .fill } } 0xA5)).map (fun t => (t.link.formatErrors, t.ltx)) = some (1, .highZ) := by
  decide +kernel
theorem test_spiByteComplete :
    (after (.spiByteComplete 0xA5 true) { live true with spi := { lselnLow := true, ignored := false, slot := some .fill } }).map
      (fun t => (t.link.rx.state, t.spi.slot)) = some (.header, some .fill) := by decide +kernel
theorem test_uartByteSent_frees_the_place :
    ((after .identify (holding 0x01 [])).bind fun t => after .uartByteSent
      { t with link := { t.link with tx := t.link.tx.map fun f => { f with sent := f.bytes.length - 1 } } }).map
      (fun t => (t.place 0, t.link.answers, t.attnActive)) = some (.empty, [], false) := by decide +kernel

/-! ### Requests -/

theorem test_unknownRequestType : answer .unknownRequestType (holding 0x40 [1, 2]) = some [0x02] := by decide +kernel
theorem test_identify : answer .identify (holding 0x01 []) =
    some [0, 0x4E, 0x64, 0x4C, 1, 4, 16, 64, 0x00, 0x20, 32, 0, 0] := by decide +kernel
theorem test_status_length : (answer .status (holding 0x02 [0])).map (·.length) = some 32 := by decide +kernel
theorem test_reset_waits : (after .reset (holding 0x03 [])).map (·.interp) = some (.resetWait 0) := by decide +kernel
theorem test_noticeControl : answer .noticeControl (holding 0x04 [1]) = some [0, 1, 0, 0] := by decide +kernel
theorem test_targetSet_slip_needs_busy :
    answer .targetSet (holding 0x10 [1, 3, 0, 0, 8, 8, 0, 1, 0, 0xE8, 3, 0, 1]) = some [0x04] := by decide +kernel
theorem test_targetGet_default :
    answer .targetGet (holding 0x11 [1]) = some [0, 1, 255, 0, 0, 8, 8, 0, 1, 0, 0xE8, 3, 0, 0] := by decide +kernel
theorem test_memWrite_beyond_memory : answer .memWrite (holding 0x18 [0xFF, 0x1F, 1, 2]) = some [0x04] := by decide +kernel
theorem test_memWrite_window_busy :
    answer .memWrite (withJob (holding 0x18 [0x03, 0x01, 9]) sendDef .running) = some [0x06] := by decide +kernel
theorem test_memWriteDone : (after .memWriteDone { holding 0x18 [0, 1, 9] with
      interp := .executing 0 (.writing 0x100 [9] 1), claim := some { start := 0x100, len := 1 } }).map
    (fun t => (t.claim, (t.arb 3).choiceDue)) = some (none, true) := by decide +kernel
theorem test_memRead_none : answer .memRead (holding 0x19 [0, 0, 0]) = some [0x04] := by decide +kernel
theorem test_memReadDone : answer .memReadDone { holding 0x19 [0, 1, 2] with
    interp := .executing 0 (.reading 0x100 2 [7, 8]) } = some [0, 7, 8] := by decide +kernel
theorem test_memoryGrant_write : (after .memoryGrant { holding 0x18 [0, 1, 9] with
      interp := .executing 0 (.writing 0x100 [9] 0) }).map (fun t => (t.mem, t.rotation, t.interp)) =
    some ([(0x100, 9)], 4, .executing 0 (.writing 0x100 [9] 1)) := by decide +kernel
theorem test_memoryGrant_no_such_address : stop .memoryGrant { live false with
    interp := .executing 0 (.writing 8191 [9, 9] 1) } = some .noSuchAddress := by decide +kernel

/-- A JOB_DEFINE of job 5: POLL on target 1, one command byte, reply AND 01h to equal 01h, at most two attempts 10 µs apart. -/
def pollPayload : List Byte := [5, 1, 3, 0, 0, 1, 4, 0, 0, 0, 0, 0, 0, 0x55, 0, 0, 0xFF, 0xFF, 1, 1, 1, 2, 10, 0]

theorem test_jobDefine_poll : (after .jobDefine (holding 0x20 pollPayload)).map (fun t => ((t.job 5).defn, (t.job 5).rt.state)) =
    some (some pollDef, .armed) := by decide +kernel
theorem test_jobDefine_poll_match_outside_mask :
    answer .jobDefine (holding 0x20 (pollPayload.set 20 3)) = some [0x04] := by decide +kernel
theorem test_jobGet : answer .jobGet (withJob (holding 0x21 [5]) pollDef .halted) = some (0 :: pollPayload) := by decide +kernel
theorem test_jobStatus : answer .jobStatus (onJob 0x22 .ready) = some [0, 5, 2, 0, 0, 0, 0, 0, 0, 0, 0, 0, 0, 0, 0] := by
  decide +kernel
theorem test_jobRelease : (after .jobRelease (onJob 0x23 .halted)).map (·.job 5) = some .free := by decide +kernel
theorem test_jobStart_queued : (answer .jobStart (onJob 0x24 .armed), answer .jobStart (onJob 0x24 .ready)) =
    (some [0, 0], some [0, 2]) := by decide +kernel
theorem test_jobStart_halted : answer .jobStart (onJob 0x24 .halted) = some [0x05] := by decide +kernel
theorem test_jobCancel_running : answer .jobCancel (onJob 0x25 .running) = some [0, 3, 1] := by decide +kernel
theorem test_jobCancel_suspended : (after .jobCancel (onJob 0x25 .suspended)).map
    (fun t => ((t.job 5).rt.lastEnding, t.notices.records)) = some (.cancelled, [.jobDone 5 .cancelled 1 0 0]) := by
  decide +kernel
theorem test_jobClear : answer .jobClear (onJob 0x26 .halted) = some [0, 0] := by decide +kernel
theorem test_jobSwap_no_window_b : answer .jobSwap (onJob 0x27 .armed) = some [0x04] := by decide +kernel
theorem test_jobSwap_running :
    answer .jobSwap (withJob (holding 0x27 [5]) (defOf .send (some { start := 0x200, len := 4 })) .running) = some [0, 0, 1] := by
  decide +kernel
theorem test_channelHold : (after .channelHold (holding 0x30 [2, 1])).map (fun t => ((t.arb 2).held, (t.arb 2).choiceDue)) =
    some (true, false) := by decide +kernel
theorem test_channelAbort : answer .channelAbort ((onJob 0x31 .running).setPlace 0 (.request (req 0x31 [0]))) =
    some [0, 5, 0xFF, 0] := by decide +kernel
theorem test_channelAbort_halts :
    (after .channelAbort { inPass sendDef .shift with
      interp := .executing 0 .fresh, link := (holding 0x31 [0]).link, straps := (live true).straps }).map
      (fun t => ((t.job 5).rt.lastFault, (t.eng 0).state, (t.arb 0).choiceDue, t.notices.records)) =
    some (.aborted, .idle, true, [.jobFault 5 0 .aborted 0]) := by decide +kernel
theorem test_timerSet : answer .timerSet (holding 0x38 [1, 0, 0, 1]) = some [0, 0xE8, 3, 1] := by decide +kernel
theorem test_lineSet : answer .lineSet (holding 0x39 [3, 2]) = some [0, 3, 2] := by decide +kernel

/-! ### Events -/

theorem test_timerExpiry :
    (after (.timerExpiry 2) ((withJob (live false) { sendDef with source := .timer 2 } .armed).setTimer 2
      { period := 7, count := some 0 })).map (fun t => ((t.job 5).rt.state, (t.timer 2).count, (t.arb 0).choiceDue)) =
    some (.ready, some 7, true) := by decide +kernel
theorem test_timerExpiry_after_timerSet : ((after .timerSet ((holding 0x38 [2, 0, 0, 1]).setTimer 2
      { period := 7, count := some 0 })).bind fun t => (after (.timerExpiry 2) t).map fun u => (decide (u = t), (u.timer 2).count)) =
    some (true, some 7) := by decide +kernel
theorem test_lineEdge_falling_ignored :
    (after (.lineEdge 1 false) ((withJob (live false) { sendDef with source := .line 1 } .armed).setLine 1
      { sel := .rising, seen := some true })).map (fun t => ((t.job 5).rt.state, (t.line 1).seen)) =
    some (.armed, some false) := by decide +kernel

/-- R127's queue: 12 URGENT, blocked; 3 NORMAL; 40 suspended. -/
def r127 (suspended : Bool) : State :=
  let s := ((live false).setJob 12 { defn := some { sendDef with cls := .urgent }, rt := { Runtime.free with state := .ready } }).setJob 3
    { defn := some { sendDef with winA := { start := 0, len := 1 } }, rt := { Runtime.free with state := .ready } }
  let s := (s.setJob 40 { defn := some { sendDef with winA := { start := 8, len := 1 } }
                          rt := { Runtime.free with state := .suspended } })
  { s.setArb 0 { held := false, slot := if suspended then some 40 else none, choiceDue := true } with
    claim := some { start := 0x100, len := 1 } }

theorem test_freshChoice_passes_over_blocked : (after (.freshChoice 0) (r127 false)).map (fun t => t.runningJob 0) =
    some (some 3) := by decide +kernel
theorem test_freshChoice_resumes : (after (.freshChoice 0) (r127 true)).map (fun t => (t.runningJob 0, (t.arb 0).slot)) =
    some (some 40, none) := by decide +kernel
theorem test_selectAssertion :
    (after (.selectAssertion 0) ((inPass sendDef .lead).setEng 0
      { (inPass sendDef .lead).eng 0 with asserted := false, interval := 0 })).map
      (fun t => (t.selActive 0 1, (t.eng 0).interval)) = some (true, 32) := by decide +kernel
theorem test_leadEnd : (after (.leadEnd 0) (inPass sendDef .lead)).map (fun t => (t.eng 0).state) = some .shift := by
  decide +kernel
theorem test_busyReady : (after (.busyReady 0) (inPass sendDef .busyWait)).map (fun t => ((t.eng 0).state, t.busyLevel 0)) =
    some (.shift, some false) := by decide +kernel
theorem test_busyTimeout : (after (.busyTimeout 0) (inPass sendDef .busyWait)).map (fun t => (t.eng 0).lag) =
    some (some (.fault .busyTimeout)) := by decide +kernel
theorem test_byteEnd_of_a_unit : (after (.byteEnd 0 0) (inPass sendDef .shift)).map
    (fun t => ((t.job 5).rt.progress, (t.eng 0).state, (t.eng 0).segCount)) = some (1, .shift, 1) := by decide +kernel
theorem test_byteEnd_received : (after (.byteEnd 0 0x81) (inPass (defOf .receive none) .shift)).map
    (fun t => ((t.job 5).rt.progress, (t.eng 0).asks, (t.eng 0).ended)) = some (0, [.store 0x81], true) := by decide +kernel
theorem test_lastBitArrived : (after (.lastBitArrived 0 0x81) (inPass exchangeDef .shift)).map (fun t => (t.eng 0).asks) =
    some [.store 0x81] := by decide +kernel
theorem test_lsb_first_byte : BitOrder.lsbFirst.fromWire 0b10110000 = 0b00001101 := by decide +kernel
theorem test_gapEnd : (after (.gapEnd 0) (inPass sendDef .gap)).map (fun t => ((t.eng 0).state, (t.eng 0).interval)) =
    some (.shift, 4096) := by decide +kernel
theorem test_unitEndComplete : (after (.unitEndComplete 0) ((inPass sendDef .unitEnd).setRt 5
      { ((inPass sendDef .unitEnd).job 5).rt with progress := 4 })).map (fun t => ((t.eng 0).state, (t.eng 0).lag)) =
    some (.lag, some (.passEnd .complete)) := by decide +kernel
theorem test_lagEnd_complete :
    (after (.lagEnd 0) ((inPass sendDef .lag).setEng 0 { (inPass sendDef .lag).eng 0 with lag := some (.passEnd .complete) })).map
      (fun t => ((t.job 5).rt.state, (t.job 5).rt.passCount, t.selActive 0 1, (t.arb 0).choiceDue, (t.eng 0).served)) =
    some (.armed, 1, false, true, some 1) := by decide +kernel
theorem test_lagEnd_poll_goes_on :
    (after (.lagEnd 0) ((inPass pollDef .lag).setEng 0
      { (inPass pollDef .lag).eng 0 with lag := some .attemptEnd, inByte := some 2 })).map
      (fun t => ((t.eng 0).state, (t.eng 0).interval, (t.job 5).rt.progress, (t.job 5).rt.lastPoll)) =
    some (.pollWait, 10, 1, 2) := by decide +kernel
theorem test_pollIntervalEnd : (after (.pollIntervalEnd 0) (inPass pollDef .pollWait)).map
    (fun t => ((t.eng 0).state, (t.eng 0).asks)) = some (.lead, [.read]) := by decide +kernel
theorem test_coreClock : ((after .coreClockStops (live false)).bind (after .coreClockReturns)) = some (live false) := by
  decide +kernel
theorem test_busyLevelSeen : (after (.busyLevelSeen 3 true) (live false)).map (·.busyLevel 3) = some (some true) := by
  decide +kernel
theorem test_clock_counts_a_timer_down :
    (match step ({ live false with usPhase := 31 }.setTimer 0 { period := 5, count := some 1 }) with
      | .next t => some (t.usPhase, t.pending)
      | _ => none) = some (0, [.timerExpiry 0]) := by decide +kernel

/-! ### What the statements' hypotheses are met by -/

theorem carries_holding (typ : Byte) (payload : List Byte) : (holding typ payload).carries typ 0 (req typ payload) :=
  ⟨rfl, rfl, rfl, rfl⟩

theorem carries_onJob (typ : Byte) (st : JobState) : (onJob typ st).carries typ 0 (req typ [5]) := ⟨rfl, rfl, rfl, rfl⟩

/-- Start-up, at the clear's last address but one. -/
def startUp : State := { live false with phase := .startUp, clearPos := 8190 }

theorem witness_EmptyQueueIsOneClock :
    (State.reset.pending = [] ∧ State.reset.rstnLow = true) ∧
    (startUp.pending = [] ∧ startUp.rstnLow = false ∧ startUp.clock = true ∧ startUp.phase = .startUp) ∧
    ((live false).pending = [] ∧ (live false).rstnLow = false ∧ (live false).clock = true ∧ (live false).phase = .running) := by
  decide +kernel

/-- The interpreter writes the last byte of memory. -/
def writing : State :=
  { holding 0x18 [0xFF, 0x1F, 9] with interp := .executing 0 (.writing 8191 [9] 0), claim := some { start := 8191, len := 1 } }

/-- The interpreter reads the last byte of memory. -/
def reading : State := { holding 0x19 [0xFF, 0x1F, 1] with interp := .executing 0 (.reading 8191 1 []) }

/-- The engine of channel 0 asks for what is given. -/
def asking (d : JobDef) (cur nxt : OutByte) (a : Ask) : State :=
  (inPass d .shift).setEng 0 { (inPass d .shift).eng 0 with cur := cur, nxt := nxt, asks := [a] }

/-- The byte of an EXCHANGE pass whose store is asked for (`asked`) or has been made. -/
def received (asked : Bool) : State :=
  (inPass exchangeDef .shift).setEng 0 { (inPass exchangeDef .shift).eng 0 with
    inByte := some 7, asks := if asked then [.store 7] else [] }

/-- The one job of the state is job 5, with a lawful definition. -/
theorem definitionsLawful_of_one (s : State) (d : JobDef) (hj : ∀ j, (s.job j).defn = if j = 5 then some d else none)
    (hd : d.lawful = true) : s.definitionsLawful := by
  intro j e h
  rw [hj] at h
  split at h <;> cases h
  exact hd

/-- The one job of the state is job 5, RUNNING on channel 0 alone. -/
theorem passesLawful_of_one (s : State) (d : JobDef) (hj : ∀ j, (s.job j).defn = if j = 5 then some d else none)
    (he : ∀ c, (s.eng c).job = if c = 0 then some 5 else none) (hp : (s.job 5).rt.progress ≤ d.bound)
    (hr : (s.job 5).rt.state = .running) (hl : (s.eng 0).Lawful d (s.job 5).rt) : s.PassesLawful where
  progress j e h := by
    rw [hj] at h
    split at h <;> cases h
    subst j
    exact hp
  suspended j e h hs := by
    rw [hj] at h
    split at h <;> cases h
    subst j
    rw [hr] at hs
    cases hs
  engine c j e hc h := by
    rw [he] at hc
    split at hc <;> cases hc
    subst c
    rw [hj] at h
    cases h
    exact hl

/-- A SEND pass that waits for the read of its first byte. -/
def reader : State := asking sendDef (.waiting 0) .empty .read

/-- An EXCHANGE pass whose first received byte waits for its store. -/
def storer : State := received true

theorem definitionsLawful_reader : reader.definitionsLawful :=
  definitionsLawful_of_one _ sendDef (by decide +kernel) (by decide)

theorem definitionsLawful_storer : storer.definitionsLawful :=
  definitionsLawful_of_one _ exchangeDef (by decide +kernel) (by decide)

theorem passesLawful_reader : reader.PassesLawful :=
  passesLawful_of_one _ sendDef (by decide +kernel) (by decide +kernel) (by decide) rfl
    { attempts := by decide, commands := by decide, bytes := by decide, byteLeft := by decide, reply := by decide
      pollWait := by decide
      read := fun k h => by
        have h : OutByte.waiting 0 = .waiting k ∨ OutByte.empty = .waiting k := h
        rcases h with h | h <;> cases h
        decide
      readAsked := by decide
      readInShift := fun _ _ => ⟨rfl, rfl⟩
      store := by decide, oneStore := by decide, owed := by decide, ended := by decide, endedGap := by decide, inLag := by decide
      reason := fun l h => by
        have h : (none : Option LagReason) = some l := h
        cases h }

theorem passesLawful_storer : storer.PassesLawful :=
  passesLawful_of_one _ exchangeDef (by decide +kernel) (by decide +kernel) (by decide) rfl
    { attempts := by decide, commands := by decide, bytes := by decide, byteLeft := by decide, reply := by decide
      pollWait := by decide
      read := fun k h => by
        have h : OutByte.empty = .waiting k ∨ OutByte.empty = .waiting k := h
        rcases h with h | h <;> cases h
      readAsked := by decide
      readInShift := fun _ _ => ⟨rfl, rfl⟩
      store := by decide, oneStore := by decide, owed := by decide, ended := by decide, endedGap := by decide, inLag := by decide
      reason := fun l h => by
        have h : (none : Option LagReason) = some l := h
        cases h }

theorem witness_OnlyTwoCommandsStop : (∀ n m a b, Instr.identify ≠ .rstnRise n m a b) ∧ Instr.identify ≠ .memoryGrant ∧
    (writing.claimMatches ∧ writing.nextRequester = some 4) ∧
    (reader.claimMatches ∧ reader.definitionsLawful ∧ reader.PassesLawful ∧ reader.nextRequester = some 0) ∧
    (storer.claimMatches ∧ storer.definitionsLawful ∧ storer.PassesLawful ∧ storer.nextRequester = some 0) :=
  ⟨nofun, nofun, ⟨⟨rfl, by decide, by decide⟩, by decide +kernel⟩,
    ⟨rfl, definitionsLawful_reader, passesLawful_reader, by decide +kernel⟩,
    ⟨rfl, definitionsLawful_storer, passesLawful_storer, by decide +kernel⟩⟩

theorem witness_EventsThatCannotOccur : State.reset.timed = false ∧ (live true).straps.spi = true ∧
    ((live false).timer 0).count = none ∧ State.reset.live = false ∧ ((live false).arb 0).choiceDue = false ∧
    (live false).nextRequester = none ∧ ((live false).eng 0).state = .idle ∧
    requestCode .identify = some 0x01 ∧ (live false).current = none ∧ (live false).rstnLow = false ∧
    (live false).phase ≠ .startUp ∧ (live false).spi.slot = none ∧ ((inPass sendDef .lead).eng 0).asserted = true ∧
    (reader.eng 0).cur = .waiting 0 ∧ (storer.eng 0).inByte ≠ none ∧
    (holding 0x01 []).current = some (0, req 0x01 []) ∧ writing.interp = .executing 0 (.writing 8191 [9] 0) ∧
    reading.interp = .executing 0 (.reading 8191 1 []) := by decide +kernel

theorem witness_QueueStrapsAndMemory : exec .coreClockStops (live false) = .next { live false with clock := false } ∧
    (∀ n m a b, Instr.coreClockStops ≠ .rstnRise n m a b) ∧ mayWriteMemory .coreClockStops = false :=
  ⟨rfl, nofun, rfl⟩

/-- One step from a pass in LAG. -/
theorem step_inPass : step { inPass sendDef .lag with pending := [.coreClockStops] } =
    .next { inPass sendDef .lag with clock := false } := rfl

/-- The step of `step_inPass` starts from a state of which the four invariants on memory, notices and the claim hold. -/
theorem witness_StepKeepsMemoryCanonical_NoticeLimits_WriteClaim : Memory.wf (inPass sendDef .lag).mem ∧
    (inPass sendDef .lag).notices.limits ∧ (inPass sendDef .lag).claimClear ∧ (inPass sendDef .lag).claimMatches := by
  refine ⟨by decide +kernel, by decide +kernel, ?_, rfl⟩
  intro w h
  have h0 : (inPass sendDef .lag).claim = none := rfl
  rw [h0] at h
  cases h

theorem witness_StepKeepsRecordsLawful : (live false).definitionsLawful ∧ (live false).targetsLawful ∧
    (live false).timersLawful ∧ (live false).runtimesLawful ∧ step (live false) = .next (live false).tick := by
  refine ⟨?_, by decide +kernel, ?_, by decide +kernel, rfl⟩
  · intro j d h
    have h0 : ∀ j, ((live false).job j).defn = none := by decide +kernel
    rw [h0] at h
    cases h
  · intro n
    have h0 : ∀ n, ((live false).timer n).period ≠ 0 ∧ ((live false).timer n).count = none := by decide +kernel
    refine ⟨(h0 n).1, fun k hk => ?_⟩
    rw [(h0 n).2] at hk
    cases hk

/-- Job 5 in the state with all three flags set. -/
def flagged (st : JobState) : State :=
  (inPass sendDef .lag).setRt 5 { Runtime.free with state := st, pending := true, cancel := true, swap := true }

theorem test_flags_of_a_job : (flagged .running).runtimesLawful ∧ ¬ (flagged .suspended).runtimesLawful ∧
    ¬ (flagged .ready).runtimesLawful := by decide +kernel

theorem coherent_inPass : (inPass sendDef .lag).Coherent where
  idle := by decide +kernel
  engineJob := by decide +kernel
  slotJob := by decide +kernel
  running := by decide +kernel
  suspended := by decide +kernel
  free := by decide +kernel
  urgent := by decide +kernel
  suspending := by decide +kernel

theorem coherent_reader : reader.Coherent where
  idle := by decide +kernel
  engineJob := by decide +kernel
  slotJob := by decide +kernel
  running := by decide +kernel
  suspended := by decide +kernel
  free := by decide +kernel
  urgent := by decide +kernel
  suspending := by decide +kernel

theorem witness_StepKeepsChannelsCoherent :
    ((inPass sendDef .lag).Coherent ∧ step { inPass sendDef .lag with pending := [.coreClockStops] } =
      .next { inPass sendDef .lag with clock := false }) ∧
    (reader.definitionsLawful ∧ reader.Coherent ∧ reader.PassesLawful ∧ step reader = .next reader.tick) :=
  ⟨⟨coherent_inPass, step_inPass⟩, definitionsLawful_reader, coherent_reader, passesLawful_reader, rfl⟩

theorem witness_StepKeepsLinkCoherent : (live false).LinkCoherent where
  request p := by
    have h0 : ∀ p, ((live false).place p).hasRequest = false ∧ p ∉ (live false).link.waiting := by decide +kernel
    refine ⟨fun h => ?_, ?_⟩
    · rw [(h0 p).1] at h; cases h
    · rintro (h | ⟨w, h⟩)
      · exact absurd h (h0 p).2
      · cases h
  once _ _ h := by cases h
  waiting := by decide +kernel
  idle := by decide +kernel
  answer := by decide +kernel
  refusal := by decide +kernel
  answers := by decide +kernel
  sending _ h := by cases h
  resetWait _ h := by cases h

theorem witness_PassDataStaysFixed : exec .coreClockStops (inPass sendDef .lag) = .next { inPass sendDef .lag with clock := false } ∧
    (inPass sendDef .lag).targetInUse 1 = true ∧ State.targetInUse { inPass sendDef .lag with clock := false } 1 = true ∧
    ((inPass sendDef .lag).job 5).rt.state.inUse = true ∧
    (State.job { inPass sendDef .lag with clock := false } 5).rt.state.inUse = true ∧
    ((onJob 0x22 .ready).job 5).rt.state = .ready := by
  refine ⟨rfl, ?_⟩
  decide +kernel

theorem witness_pins_and_reset : State.reset.rstnLow = true ∧
    ((live false).rstnLow = false ∧ (live false).clock = true) ∧
    State.rstnLow { live false with clock := false } = false ∧ State.clock { State.reset with clock := false } = false ∧
    (State.reset.rstnLow = true ∧ State.reset.phase = .held ∧ 10 ≤ 10) ∧
    (State.phase { live false with rstnLow := true } ≠ .held) ∧ 9 < 10 ∧
    (startUp.phase = .startUp ∧ startUp.rstnLow = false ∧ startUp.clock = true ∧ startUp.link = .powerOn ∧
      startUp.notices = .powerOn ∧ startUp.straps.spi = false ∧ (live true).straps.spi = true) := by decide +kernel

theorem witness_ResetRequest : (holding 0x03 []).carries 0x03 0 (req 0x03 []) ∧ (req 0x03 []).payload = [] ∧
    State.interp { live false with interp := .resetWait 0 } = .resetWait 0 ∧
    ∀ c, ((live false).eng c).storeWaiting = none := ⟨carries_holding _ _, rfl, rfl, by decide +kernel⟩

/-- A byte in SHIFT on channel 0 with so many core clocks left. -/
def shifting (b : Byte) (left : Nat) : State :=
  (inPass sendDef .shift).setEng 0 { (inPass sendDef .shift).eng 0 with cur := .held b, interval := left }

theorem test_bitPeriods : (List.range 9).map (fun k => ((shifting 0xA6 (4096 - 512 * k)).sdoHigh 0, (shifting 0xA6 (4096 - 512 * k)).sckHigh 0)) =
    [(true, false), (false, false), (true, false), (false, false), (false, false), (true, false), (true, false), (false, false),
      (false, false)] ∧ (shifting 0xA6 (4096 - 256)).sckHigh 0 = true := by decide +kernel

/-- A UART frame byte in progress at 115200 bit/s with so many core clocks left. -/
def sendingByte (b : Byte) (left : Nat) : State :=
  { live false with link := { Link.powerOn with tx := some { source := .notice, bytes := [b], sent := 0 }, txClocks := left } }

theorem test_uartCharacter : (List.range 10).map (fun k => (sendingByte 0xA6 (2780 - 278 * k)).ltx) =
    [.low, .low, .high, .high, .low, .low, .high, .low, .high, .high] := by decide +kernel

theorem witness_ChannelPins : (inPass sendDef .lag).rstnLow = false ∧ (inPass sendDef .lag).selActive 0 1 = true ∧
    (inPass sendDef .lag).selActive 0 1 = true ∧ ((inPass sendDef .lag).eng 0).state ≠ .shift ∧
    (∀ k : Fin 8, ∀ h ∈ [0, 256, 511], ((shifting 0xA6 (4096 - 512 * k - h)).eng 0).interval + (2 * 256 * k + h) = 8 * (2 * 256)) ∧
    (Profile.default.divider.toNat + 1 = 256 ∧ (shifting 0xA6 1).target 1 = .default) ∧
    (((shifting 0xA6 0).eng 0).state = .shift ∧ ((shifting 0xA6 0).eng 0).served = some 1 ∧
      ((shifting 0xA6 0).eng 0).interval = 0 ∧ ((shifting 0xA6 0).eng 0).cur = .held 0xA6) ∧
    (reader.rstnLow = false ∧ (reader.eng 0).state = .shift ∧ ∀ b, (reader.eng 0).cur ≠ .held b) := by
  decide +kernel

/-! The receiver and the link. -/

theorem witness_GoodFrameIsReceived : (live false).link.rx.state = .hunt ∧ (List.replicate 240 (0 : Byte)).length ≤ 240 := by
  decide +kernel

theorem witness_ReceiverErrors : (live false).link.rx.state = .hunt ∧
    ((0 : Byte) ++ (0 : Byte) : BitVec 16) ≠ crcOf (natByte ([] : List Byte).length :: 0 :: 1 :: []) ∧ (0 : Byte) ≠ 0xA5 ∧
    ((live false).rxByte 0xA5).link.rx.state = .header ∧ ((live false).rxByte 0xA5).link.rx.got = [] ∧
    240 < (241 : Byte).toNat := by decide +kernel

/-- The last accepted request is 42h with CRC 1234h, answered or not. -/
def remembering (a : Option Answer) (full : Bool) : State :=
  { live false with link := { Link.powerOn with
      replay := some { tag := 0x42, crc := 0x1234, place := 0, answer := a }
      places := Vector.replicate 4 (if full then .request (req 0 []) else .empty)
      refusal := if full then a else none } }

/-- An answer. -/
def anAnswer : Answer := { tag := 0x42, typ := 0x81, payload := [0] }

theorem witness_AcceptanceReplayRefusal :
    ((remembering none false).link.replay = some { tag := 0x42, crc := 0x1234, place := 0, answer := none }) ∧
    (remembering (some anAnswer) false).freePlace = some 0 ∧ (remembering (some anAnswer) true).freePlace = none ∧
    (live false).link.replay = none ∧ (live false).freePlace = some 0 ∧ (live false).link.refusal = none ∧
    (remembering (some anAnswer) true).link.refusal ≠ none := by decide +kernel

theorem witness_UartCharacters : (live false).timed = true ∧ (live false).straps.spi = false := by decide +kernel

theorem witness_LselnEdges_SpiBytes : (live true).spi.lselnLow = false ∧
    State.phase { live true with phase := .startUp } ≠ .running ∧ (live true).link.tx = none ∧
    (State.spi { live true with spi := { lselnLow := true, ignored := false, slot := some .frameByte } }).lselnLow = true ∧
    (State.spi { live true with spi := { lselnLow := true, ignored := false, slot := some .frameByte } }).slot = some .frameByte ∧
    (live true).straps.spi = true ∧ (live true).rstnLow = false ∧ (live true).phase = .running ∧ (live true).spi.slot = none := by
  decide +kernel

/-- The first frame byte of six is on its way. -/
def aFrame (sent : Nat) : TxFrame := { source := .notice, bytes := [0xA5, 0, 0, 0, 0, 0], sent := sent }

theorem witness_UartByteSent : (live false).timed = true ∧ (live false).link.tx = none ∧
    (aFrame 4).sent + 1 < (aFrame 4).bytes.length ∧ (aFrame 5).bytes.length ≤ (aFrame 5).sent + 1 ∧
    (live false).interp ≠ .resetWait 0 ∧ (live false).link.txByte = none ∧ (live false).straps.spi = false ∧
    (∀ k : Fin 10, ∀ h ∈ [0, 277], (sendingByte 0xA6 (2780 - 278 * k - h)).link.txByte = some 0xA6 ∧
      (sendingByte 0xA6 (2780 - 278 * k - h)).link.txClocks + (278 * k + h) = 10 * 278) := by decide +kernel

/-- An answer waits in place 0. -/
def answering : State :=
  { live false with link := { Link.powerOn with
      places := Link.powerOn.places.set 0 (.answered (req 1 []) anAnswer), answers := [.place 0] } }

theorem witness_FrameBoundaryChoice :
    Option.isSome (State.link { live false with link := { Link.powerOn with tx := some (aFrame 0) } }).tx = true ∧
    (answering.link.tx = none ∧ answering.link.answers = [.place 0] ∧ answering.answerOf (.place 0) = some anAnswer) ∧
    ((live false).link.answers = [] ∧ (live false).notices.paused = false ∧ (live false).notices.records = []) ∧
    (State.notices { live false with notices := { records := [.started .power], lost := 1, paused := false } }).records =
      .started .power :: [] ∧
    answering.place 0 = .answered (req 1 []) anAnswer := by decide +kernel

/-! Requests. -/

theorem witness_BadType : (holding 0x40 []).carries 0x40 0 (req 0x40 []) ∧ (0x40 : Byte) ∉ requestCodes :=
  ⟨carries_holding _ _, by decide +kernel⟩

theorem witness_BadLengthAndBadNumber : requestCode .jobGet = some 0x21 ∧ numberLimit .jobGet = some 64 ∧
    (holding 0x21 []).carries 0x21 0 (req 0x21 []) ∧ permittedLen 0x21 0 = false ∧
    (holding 0x21 [64]).carries 0x21 0 (req 0x21 [64]) ∧ permittedLen 0x21 1 = true ∧
    64 ≤ (byteAt [64] 0).toNat ∧ numberLimit .targetGet = some 16 ∧ numberLimit .lineSet = some 4 := by
  refine ⟨rfl, rfl, carries_holding _ _, rfl, carries_holding _ _, rfl, ?_⟩
  decide +kernel

theorem witness_Identify_Status_NoticeControl : (holding 0x01 []).carries 0x01 0 (req 0x01 []) ∧
    (∀ b, (holding 0x02 [b]).carries 0x02 0 (req 0x02 [b])) ∧ (∀ b, (holding 0x04 [b]).carries 0x04 0 (req 0x04 [b])) ∧
    2 ≤ (2 : Byte).toNat ∧ (1 : Byte).toNat < 2 :=
  ⟨carries_holding _ _, fun _ => carries_holding _ _, fun _ => carries_holding _ _, by decide, by decide⟩

/-- A TARGET_SET of target 1 with the unit given. -/
def targetPayload (unit : Byte) : List Byte := [1, 3, 0, 0, 8, 8, 0, unit, 0, 0xE8, 3, 0, 0]

theorem witness_TargetRequests : (∀ u, (holding 0x10 (targetPayload u)).carries 0x10 0 (req 0x10 (targetPayload u))) ∧
    parseProfile (targetPayload 17) = none ∧ parseProfile (targetPayload 16) ≠ none ∧ (targetPayload 16).length = 13 ∧
    (holding 0x11 [natByte 15]).carries 0x11 0 (req 0x11 [natByte 15]) ∧
    (((inPass sendDef .lag).job 5).defn = some sendDef ∧ sendDef.target = 1 ∧ ((inPass sendDef .lag).job 5).rt.state = .running) ∧
    ∀ j, ((holding 0x10 (targetPayload 16)).job j).defn = none :=
  ⟨fun _ => carries_holding _ _, by decide +kernel, by decide +kernel, rfl, carries_holding _ _, by decide +kernel, by
    decide +kernel⟩

theorem witness_ProfileCoding : (targetPayload 16).length = 13 ∧
    parseProfile (targetPayload 16) = some { Profile.default with divider := 3, unit := 16 } := by decide +kernel

theorem witness_MemWrite : (∀ lo hi d, (holding 0x18 (lo :: hi :: d)).carries 0x18 0 (req 0x18 (lo :: hi :: d))) ∧
    8191 = (0xFF : Byte).toNat + 256 * (0x1F : Byte).toNat ∧ (8191 + 1 ≤ 8192) ∧ 8192 < 8191 + 2 ∧
    (holding 0x18 []).windowsInUse = [] ∧ (∀ j, ((holding 0x18 []).job j).defn = none) ∧
    (withJob (holding 0x18 [0x03, 0x01, 9]) sendDef .running).carries 0x18 0 (req 0x18 [0x03, 0x01, 9]) ∧
    { start := 0x100, len := 4 } ∈ (withJob (holding 0x18 [0x03, 0x01, 9]) sendDef .running).windowsInUse ∧
    sendDef.lawful = true := by
  refine ⟨fun _ _ _ => carries_holding _ _, ?_⟩
  decide +kernel

theorem witness_MemWriteDoneAndMemRead : (writing.live = true ∧ writing.place 0 = .request (req 0x18 [0xFF, 0x1F, 9]) ∧
      writing.interp = .executing 0 (.writing 8191 [9] 0)) ∧
    (∀ lo hi n, (holding 0x19 [lo, hi, n]).carries 0x19 0 (req 0x19 [lo, hi, n])) ∧
    236 < (237 : Byte).toNat ∧ (236 : Byte).toNat ≤ 236 ∧ 1 ≤ (1 : Byte).toNat ∧ 7956 + 236 ≤ 8192 :=
  ⟨by decide +kernel, fun _ _ _ => carries_holding _ _, by decide +kernel⟩

theorem witness_GrantToInterpreter : (writing.live = true ∧ writing.nextRequester = some 4 ∧ 8191 + 0 < 8192) ∧
    (reading.live = true ∧ reading.nextRequester = some 4 ∧ reading.interp = .executing 0 (.reading 8191 1 [])) ∧
    Memory.wf [] := by decide +kernel

theorem witness_GrantToEngine :
    ((asking sendDef (.waiting 0) .empty .read).nextRequester = some 0 ∧
      (asking sendDef (.waiting 0) .empty .read).pass? 0 = some (passOf sendDef) ∧
      (asking sendDef (.waiting 0) .empty .read).readAddr (passOf sendDef) 0 < 8192) ∧
    ((asking sendDef .empty (.waiting 3) .read).nextRequester = some 0 ∧
      (asking sendDef .empty (.waiting 3) .read).readAddr (passOf sendDef) 3 < 8192) ∧
    ((asking exchangeDef .empty .empty (.store 7)).nextRequester = some 0 ∧
      (asking exchangeDef .empty .empty (.store 7)).pass? 0 = some (passOf exchangeDef) ∧
      (asking exchangeDef .empty .empty (.store 7)).storeAddr (passOf exchangeDef) < 8192) := by decide +kernel

/-! Jobs. -/

theorem witness_job_requests : (∀ typ st, (onJob typ st).carries typ 0 (req typ [5])) ∧ [natByte (5 : Fin 64).1] = [5] ∧
    (∀ st, ((onJob 0x22 st).job 5).rt.state = st ∧ ((onJob 0x22 st).job 5).defn = some sendDef) ∧
    sendDef.kind = .send ∧ sendDef.winB = none :=
  ⟨carries_onJob, by decide, fun st => ⟨rfl, rfl⟩, rfl, rfl⟩

theorem witness_JobDefinitionRequests :
    (holding 0x20 pollPayload).carries 0x20 0 (req 0x20 pollPayload) ∧ pollPayload.length = 24 ∧
    (byteAt pollPayload 0).toNat = (5 : Fin 64).1 ∧ parseJobDef pollPayload = some pollDef ∧
    parseJobDef (pollPayload.set 21 0) = none ∧ ((holding 0x20 pollPayload).job 5).rt.state = .free ∧
    (withJob (holding 0x20 pollPayload) pollDef .ready).carries 0x20 0 (req 0x20 pollPayload) := by
  refine ⟨carries_holding _ _, ?_⟩
  decide +kernel

/-- A JOB_DEFINE payload of a SEND job whose window B is absent: what it carries there and in the POLL fields is not kept. -/
def sendPayload : List Byte := [5, 1, 0, 0, 0, 1, 4, 0, 0, 9, 9, 9, 9, 0x55, 0, 0, 0xFF, 0xFF, 1, 7, 7, 7, 7, 7]

theorem witness_JobDefinitionCoding : (sendPayload.length = 24 ∧ parseJobDef sendPayload = some sendDef ∧
      sendDef.bytes = keptDefinition sendPayload ∧ sendDef.lawful = true) ∧
    (pollPayload.length = 24 ∧ parseJobDef pollPayload = some pollDef ∧ pollDef.bytes = keptDefinition pollPayload ∧
      pollDef.lawful = true) := by decide +kernel

/-- The SEND definition with a window B. -/
def swapDef : JobDef := defOf .send (some { start := 0x200, len := 4 })

theorem witness_JobRecordRequests : swapDef.kind = .send ∧ swapDef.winB ≠ none ∧
    (withJob (holding 0x27 [5]) swapDef .suspended).carries 0x27 0 (req 0x27 [5]) ∧
    ((withJob (holding 0x27 [5]) swapDef .suspended).job 5).defn = some swapDef := by decide +kernel

/-- The job of `inPass` is cancelled: the engine's pass is found by its channel. -/
theorem witness_JobCancel : (inPass sendDef .gap).pass? 0 = some (passOf sendDef) ∧ (passOf sendDef).job = 5 ∧
    channelOf sendDef.target = 0 ∧ ((inPass sendDef .gap).job 5).rt.state = .running ∧
    ((inPass sendDef .gap).job 5).rt.cancel = false ∧ ((inPass sendDef .gap).eng 0).state = .gap ∧
    ((inPass pollDef .pollWait).eng 0).state = .pollWait := by decide +kernel

theorem witness_HoldTimerAndLineRequests : (∀ c b, (holding 0x30 [c, b]).carries 0x30 0 (req 0x30 [c, b])) ∧
    (∀ n lo hi b, (holding 0x38 [n, lo, hi, b]).carries 0x38 0 (req 0x38 [n, lo, hi, b])) ∧
    (∀ n b, (holding 0x39 [n, b]).carries 0x39 0 (req 0x39 [n, b])) ∧ 2 ≤ (2 : Byte).toNat ∧ (1 : Byte).toNat < 2 ∧
    4 ≤ (4 : Byte).toNat :=
  ⟨fun _ _ => carries_holding _ _, fun _ _ _ _ => carries_holding _ _, fun _ _ => carries_holding _ _, by decide, by decide,
    by decide⟩

theorem witness_ChannelAbort : (holding 0x31 [0]).carries 0x31 0 (req 0x31 [0]) ∧
    (inPass sendDef .lag).Coherent ∧ ((inPass sendDef .lag).eng 0).storeWaiting = none ∧
    ((asking exchangeDef .empty .empty (.store 7)).eng 0).storeWaiting = some 7 ∧
    (asking exchangeDef .empty .empty (.store 7)).pass? 0 = some (passOf exchangeDef) :=
  ⟨carries_holding _ _, coherent_inPass, by decide +kernel, by decide +kernel, by decide +kernel⟩

/-- A notice queue with a record of each merging kind for job 5. -/
def noticed : NoticeQueue := { records := [.jobDone 5 .complete 255 4 0, .overrun 5 1], lost := 0, paused := true }

theorem witness_HandingANotice : noticed.limits ∧
    noticed.records = [] ++ .jobDone 5 .complete 255 4 0 :: [.overrun 5 1] ∧
    noticed.records = [.jobDone 5 .complete 255 4 0] ++ .overrun 5 1 :: [] ∧
    (∀ e m p b, Notice.started .power ≠ .jobDone 5 e m p b) :=
  ⟨by decide +kernel, rfl, rfl, nofun⟩

theorem witness_TimerAndLineTriggers :
    (live false).timed = true ∧ (((live false).setTimer 2 { period := 7, count := some 0 }).timer 2).count = some 0 ∧
    (Timer.powerOn.period ≠ 0 ∧ ((live false).setTimer 2 (Timer.powerOn.set 7 true)).timer 2 = Timer.powerOn.set 7 true) ∧
    (((live false).setLine 1 { sel := .rising, seen := some false }).line 1).seen = some (!true) ∧
    (((live false).setLine 1 { sel := .rising, seen := some false }).line 1).sel = .rising ∧
    ((live false).line 1).seen ≠ some (!true) := by decide +kernel

theorem witness_FreshChoice : ((r127 false).live = true ∧ ((r127 false).arb 0).choiceDue = true ∧
      ((r127 false).eng 0).state = .idle ∧ ((r127 false).arb 0).held = false ∧ (r127 false).firstUnblocked 0 .urgent = none ∧
      ((r127 false).arb 0).slot = none ∧ (r127 false).firstUnblocked 0 .normal = some 3) ∧
    (((r127 true).arb 0).slot = some 40 ∧ ((r127 true).job 40).rt.state = .suspended) ∧
    State.firstUnblocked { r127 false with claim := none } 0 .urgent = some 12 := by decide +kernel

theorem witness_engine_events (st : EngState) : (inPass sendDef st).timed = true ∧
    (inPass sendDef st).pass? 0 = some (passOf sendDef) ∧ ((inPass sendDef st).eng 0).state = st ∧
    ((inPass sendDef st).eng 0).asserted = true ∧ ((inPass sendDef st).eng 0).ended = false ∧
    ((inPass sendDef st).eng 0).inByte = none ∧ ((inPass sendDef st).eng 0).storeWaiting = none ∧
    ((inPass sendDef st).eng 0).cur = .empty ∧ ((inPass sendDef st).eng 0).replying = false :=
  ⟨rfl, rfl, rfl, rfl, rfl, rfl, rfl, rfl, rfl⟩

theorem witness_ByteEvents : (received true).pass? 0 = some (passOf exchangeDef) ∧ ((received true).eng 0).inByte ≠ none ∧
    ((received true).eng 0).storeWaiting ≠ none ∧ ((received false).eng 0).storeWaiting = none ∧
    exchangeDef.kind = .exchange ∧ pollDef.kind = .poll ∧
    (inPass pollDef .shift).pass? 0 = some (passOf pollDef) := by decide +kernel

/-- The pass of `inPass` in LAG with the reason, its cancel requested or not. -/
def inLag (d : JobDef) (l : LagReason) (cancel : Bool) : State :=
  let s := inPass d .lag
  (s.setEng 0 { s.eng 0 with lag := some l, inByte := some 2 }).setRt 5 { (s.job 5).rt with cancel := cancel }

theorem witness_LagAndHandOver :
    (((inLag sendDef (.fault .slip) false).eng 0).lag = some (.fault .slip) ∧ LagReason.fault .slip ≠ .attemptEnd) ∧
    (LagReason.passEnd .complete ≠ .attemptEnd ∧ LagReason.suspension ≠ .attemptEnd) ∧
    (LagReason.cancel ≠ .attemptEnd ∧ ((inLag sendDef .cancel true).job (passOf sendDef).job).rt.cancel = true) := by
  decide +kernel

theorem witness_PollAttempts : ((inLag pollDef .attemptEnd false).eng 0).inByte = some 2 ∧
    ((inLag pollDef .attemptEnd false).job (passOf pollDef).job).rt.progress < pollDef.retryLimit.toNat ∧
    (inLag pollDef .attemptEnd false).pass? 0 = some (passOf pollDef) ∧
    ((inPass pollDef .pollWait).eng 0).state = .pollWait ∧
    (inPass pollDef .pollWait).pass? 0 = some (passOf pollDef) := by decide +kernel

theorem test_last_attempt : (State.settleAttempt ((inLag pollDef .attemptEnd false).setRt 5
      { ((inLag pollDef .attemptEnd false).job 5).rt with progress := 1 }) (passOf pollDef)).notices.records =
    [.jobDone 5 .noMatch 1 2 2] := by decide +kernel

theorem witness_Endings : ((inPass sendDef .lag).job 5).rt.state = .running ∧ ((inPass sendDef .lag).job 5).rt.cancel = false ∧
    ((inPass sendDef .lag).job 5).defn = some sendDef ∧ sendDef.success = none ∧ sendDef.failure = none := by decide +kernel

end Sys2Proof.Tests
end

section
/-! SUPPORT. What ATTN reads of the state, and its condition (R29, R2). -/
namespace Sys2Proof.Machine

theorem Link.answerWaits_iff (l : Link) : l.answerWaits = true ↔ ∃ r ∈ l.answers, l.sending ≠ some r := by
  simp [Link.answerWaits]

/-- R2: while RSTn is low ATTN is inactive, whatever waits inside the part. -/
theorem State.attnActive_of_rstnLow {s : State} (hlow : s.rstnLow = true) : s.attnActive = false := by
  simp [State.attnActive, State.forced, hlow]

/-- R29: with RSTn high ATTN shows the three conditions and nothing else. -/
theorem State.attnActive_iff_of_rstnHigh {s : State} (hhigh : s.rstnLow = false) :
    s.attnActive = true ↔ (∃ r ∈ s.link.answers, s.link.sending ≠ some r) ∨
      (s.notices.records ≠ [] ∧ s.notices.paused = false) ∨ s.link.tx ≠ none := by
  have htx : s.link.tx.isSome = true ↔ s.link.tx ≠ none := Option.isSome_iff_ne_none
  simp only [State.attnActive, State.forced, hhigh, Bool.not_false, Bool.true_and, Bool.or_eq_true, Bool.and_eq_true,
    Bool.not_eq_true', List.isEmpty_eq_false_iff, Link.answerWaits_iff, htx, or_assoc]

end Sys2Proof.Machine

namespace Sys2Proof
open Sys2Proof.Machine

/-- Settles O20: RSTn low forces the pin inactive; with RSTn high each part of the pin's equation is one of R29's conditions. -/
theorem attnCondition : Obligations.AttnCondition := by
  intro s
  cases hrst : s.rstnLow with
  | true => simp [State.attnActive_of_rstnLow hrst]
  | false => simpa using State.attnActive_iff_of_rstnHigh hrst

end Sys2Proof
end

section
/-! SUPPORT. The checks common to all requests (R34 to R36): every request command serves its code, and what it answers to a
TYPE, a LEN or a number outside its range. -/
namespace Sys2Proof.Machine

/-- R34: a TYPE that is no request code is answered BAD_TYPE. -/
theorem execUnknownRequestType_of_carries {s : State} {code : Byte} {p : Fin 4} {r : Request} (h : s.carries code p r)
    (hcode : code ∉ requestCodes) : execUnknownRequestType s = .next (s.answered p r .badType []).uartBoundary := by
  have hcurrent := State.current_of_carries h
  obtain ⟨-, -, -, rfl⟩ := h
  simp [execUnknownRequestType, hcurrent, hcode, State.done, State.reply_eq]

/-- R34, R205: no notice record is as short as an answer of one result byte. -/
theorem Notice.one_lt_bytes_length (n : Notice) : 1 < n.bytes.length := by
  cases n <;> simp [Notice.bytes]

/-- R34: each request command has one of the twenty codes. -/
theorem requestCode_mem {i : Instr} {code : Byte} (h : requestCode i = some code) : code ∈ requestCodes := by
  cases i with
  | identify | status | reset | noticeControl | targetSet | targetGet | memWrite | memRead | jobDefine | jobGet | jobStatus
  | jobRelease | jobStart | jobCancel | jobClear | jobSwap | channelHold | channelAbort | timerSet | lineSet =>
    cases h; decide
  | _ => cases h

/-- R35: to a request code the answer type adds 80h. -/
theorem answerType_of_mem {code : Byte} (h : code ∈ requestCodes) : answerType code = code + 0x80 := by
  have hlow : ∀ c ∈ requestCodes, c.toNat < 0x80 := by decide
  exact if_pos (hlow code h)

/-- R35: each request command serves its code, so that the check of LEN comes before anything of its own. -/
theorem exec_eq_serve {i : Instr} {code : Byte} (h : requestCode i = some code) :
    ∃ body : State → Fin 4 → Request → State, ∀ s, exec i s = s.serve code (body s) := by
  cases i with
  | identify | status | reset | noticeControl | targetSet | targetGet | memWrite | memRead | jobDefine | jobGet | jobStatus
  | jobRelease | jobStart | jobCancel | jobClear | jobSwap | channelHold | channelAbort | timerSet | lineSet =>
    cases h; exact ⟨_, fun _ => rfl⟩
  | _ => cases h

/-- The least and the greatest permitted LEN of each request code (R35, R202). -/
def lengthRanges : List (Byte × Nat × Nat) :=
  [(0x01, 0, 0), (0x02, 1, 1), (0x03, 0, 0), (0x04, 1, 1), (0x10, 13, 13), (0x11, 1, 1), (0x18, 3, 240), (0x19, 3, 3),
    (0x20, 24, 24), (0x21, 1, 1), (0x22, 1, 1), (0x23, 1, 1), (0x24, 1, 1), (0x25, 1, 1), (0x26, 1, 1), (0x27, 1, 1),
    (0x30, 2, 2), (0x31, 1, 1), (0x38, 4, 4), (0x39, 2, 2)]

/-- R35: all but MEM_WRITE have one permitted LEN, whose range comes down to an equation. -/
theorem permittedLen_iff_of_mem {e : Byte × Nat × Nat} (he : e ∈ lengthRanges) (n : Nat) :
    permittedLen e.1 n = true ↔ e.2.1 ≤ n ∧ n ≤ e.2.2 := by
  revert e
  simp only [lengthRanges, List.forall_mem_cons]
  simp [permittedLen, ← ge_antisymm_iff]

/-- R36: a number at or above the limit names nothing. -/
theorem finOf_eq_none {n : Nat} {b : Byte} (h : n ≤ b.toNat) : finOf n b = none := dif_neg (Nat.not_lt.mpr h)

/-- R36: a request that names a thing by number answers BAD_ARG when the number names none, whatever the rest of the state. -/
theorem exec_eq_serve_checking_number {i : Instr} {code : Byte} {limit : Nat} (hcode : requestCode i = some code)
    (hlimit : numberLimit i = some limit) :
    ∃ body : State → Fin 4 → Request → State, (∀ s, exec i s = s.serve code (body s)) ∧
      ∀ s p r, finOf limit (byteAt r.payload 0) = none → body s p r = s.reply p r .badArg [] := by
  cases i with
  | targetSet | targetGet | jobDefine | jobGet | jobStatus | jobRelease | jobStart | jobCancel | jobClear | jobSwap
  | channelHold | channelAbort | timerSet | lineSet =>
    cases hcode; cases hlimit
    exact ⟨_, fun _ => rfl, fun s p r hnone => by simp only [hnone]⟩
  | _ => cases hlimit

/-- R36: a number at or above the request's limit is answered BAD_ARG. -/
theorem exec_badNumber {i : Instr} {code : Byte} {limit : Nat} {s : State} {p : Fin 4} {r : Request}
    (hcode : requestCode i = some code) (hlimit : numberLimit i = some limit) (h : s.carries code p r)
    (hlen : permittedLen code r.payload.length = true) (hnum : limit ≤ (byteAt r.payload 0).toNat) :
    exec i s = .next (s.answered p r .badArg []).uartBoundary := by
  obtain ⟨body, hexec, hbad⟩ := exec_eq_serve_checking_number hcode hlimit
  rw [hexec, State.serve_of_carries h hlen, hbad s p r (finOf_eq_none hnum), State.reply_eq]

/-- R35: a LEN that is not permitted is answered BAD_LENGTH. -/
theorem exec_badLength {i : Instr} {code : Byte} {s : State} {p : Fin 4} {r : Request} (hcode : requestCode i = some code)
    (h : s.carries code p r) (hlen : permittedLen code r.payload.length = false) :
    exec i s = .next (s.answered p r .badLength []).uartBoundary := by
  obtain ⟨body, hexec⟩ := exec_eq_serve hcode
  rw [hexec, State.serve_badLength h hlen]

/-- R35: the BAD_LENGTH answer of a request code carries the TAG, TYPE plus 80h and the result byte alone. -/
theorem Request.answer_badLength {s : State} {code : Byte} {p : Fin 4} {r : Request} (h : s.carries code p r)
    (hmem : code ∈ requestCodes) :
    r.answer .badLength [] = { tag := r.tag, typ := code + 0x80, payload := [0x03] } := by
  obtain ⟨-, -, -, rfl⟩ := h
  rw [Request.answer, answerType_of_mem hmem]; rfl

end Sys2Proof.Machine

namespace Sys2Proof
open Sys2Proof.Machine

/-- Settles O32: every request command serves its code, which checks LEN, and each of those that name a thing by number then
checks that number. -/
theorem badLengthAndBadNumber : Obligations.BadLengthAndBadNumber :=
  ⟨fun _ _ _ _ _ hcode h hlen =>
      ⟨exec_badLength hcode h hlen, Request.answer_badLength h (requestCode_mem hcode)⟩,
    fun _ he => permittedLen_iff_of_mem he,
    fun _ _ _ _ _ _ hcode hlimit h hlen hnum => exec_badNumber hcode hlimit h hlen hnum⟩

/-- Settles O31: an unknown TYPE is answered before its length is looked at, and a notice record has more than one byte. -/
theorem badType : Obligations.BadType :=
  fun _ _ _ h => ⟨execUnknownRequestType_of_carries h, rfl, Notice.one_lt_bytes_length⟩

end Sys2Proof
end

section
/-! SUPPORT. The notice queue: which records merge, and what one hand-over does to the queue (R185 to R190). -/
namespace Sys2Proof.Machine

/-! ### Which records merge -/

/-- R189: what takes a JOB_DONE in is a JOB_DONE of the same job. -/
theorem Notice.takes_jobDone_iff {r : Notice} {j : Fin 64} {e : Ending} {m b : Byte} {p : Nat} :
    r.takes (.jobDone j e m p b) = true ↔ ∃ e' m' p' b', r = .jobDone j e' m' p' b' := by
  cases r <;> simp [Notice.takes]

/-- R189: what takes an OVERRUN in is an OVERRUN of the same job. -/
theorem Notice.takes_overrun_iff {r : Notice} {j : Fin 64} {i : Byte} :
    r.takes (.overrun j i) = true ↔ ∃ i', r = .overrun j i' := by
  cases r <;> simp [Notice.takes]

/-- R186: a record that is neither a JOB_DONE nor an OVERRUN is taken in by none. -/
theorem Notice.takes_eq_false_of_merges {n : Notice} (h : n.merges = false) (r : Notice) : r.takes n = false := by
  cases n with
  | started _ | jobFault _ _ _ _ | noticeLost _ => cases r <;> rfl
  | jobDone _ _ _ _ _ | overrun _ _ => cases h

theorem Notice.takes_comm (a b : Notice) : a.takes b = b.takes a := by
  cases a <;> cases b <;> simp [Notice.takes, eq_comm]

/-- Two records of one kind for one job are taken in by the same records. -/
theorem Notice.takes_congr {a n : Notice} (h : a.takes n = true) (r : Notice) : r.takes n = r.takes a := by
  cases n with
  | jobDone j e m p b => obtain ⟨_, _, _, _, rfl⟩ := Notice.takes_jobDone_iff.mp h; cases r <;> rfl
  | overrun j i => obtain ⟨_, rfl⟩ := Notice.takes_overrun_iff.mp h; cases r <;> rfl
  | started _ | jobFault _ _ _ _ | noticeLost _ => cases (Notice.takes_eq_false_of_merges rfl a).symm.trans h

/-- JOB_DONE and OVERRUN are the kinds that merge (R186). -/
theorem Notice.merges_iff (n : Notice) :
    n.merges = true ↔ (∃ j e m p b, n = .jobDone j e m p b) ∨ ∃ j i, n = .overrun j i := by
  cases n <;> simp [Notice.merges]

/-! ### A hand-over, by its outcome -/

/-- The limits of R185 as they bear on one record: the common limit of 32, and the limit of 28 on the kinds that merge. -/
theorem NoticeQueue.room_iff {q : NoticeQueue} {n : Notice} :
    q.room n = true ↔ q.records.length < 32 ∧ (n.merges = true → q.records.countP Notice.merges < 28) := by
  simp only [NoticeQueue.room, Bool.and_eq_true, Bool.or_eq_true, Bool.not_eq_true', decide_eq_true_eq]
  cases n.merges <;> simp [mergingCount, Config.noticeCap, Config.mergeCap]

/-- R185: at most one record of a kind for a job, so the record that takes `n` in is the only one that does. -/
theorem NoticeQueue.others_take_not {q : NoticeQueue} {l r : List Notice} {a n : Notice} (hq : q.limits)
    (hrec : q.records = l ++ a :: r) (ha : a.takes n = true) : ∀ x ∈ l ++ r, x.takes n = false := by
  obtain ⟨-, -, honce⟩ := hq
  rw [hrec, List.pairwise_append, List.pairwise_cons] at honce
  obtain ⟨-, ⟨hafter, -⟩, hbefore⟩ := honce
  intro x hx
  rw [Notice.takes_congr ha]
  rcases List.mem_append.mp hx with hx | hx
  · exact hbefore x hx a List.mem_cons_self
  · rw [Notice.takes_comm]; exact hafter x hx

/-- Records that do not take `n` in stay as they are when `n` merges. -/
theorem map_merge_of_takes_not {rs : List Notice} {n : Notice} (h : ∀ x ∈ rs, x.takes n = false) :
    rs.map (fun x => if x.takes n then x.merge n else x) = rs := by
  refine (List.map_congr_left fun x hx => ?_).trans rs.map_id
  rw [h x hx]; rfl

/-- R186: a record merges into the one that takes it in, which keeps its position; the rest of the queue stays as it was. -/
theorem NoticeQueue.hand_of_takes {q : NoticeQueue} {l r : List Notice} {a n : Notice} (hq : q.limits)
    (hrec : q.records = l ++ a :: r) (ha : a.takes n = true) :
    q.hand n = { q with records := l ++ a.merge n :: r } := by
  have hothers := NoticeQueue.others_take_not hq hrec ha
  have hl := map_merge_of_takes_not fun x hx => hothers x (List.mem_append_left r hx)
  have hr := map_merge_of_takes_not fun x hx => hothers x (List.mem_append_right l hx)
  have hany : q.records.any (·.takes n) = true := by simp [hrec, ha]
  rw [NoticeQueue.hand, if_pos hany, hrec, List.map_append, List.map_cons, hl, hr, if_pos ha]

/-- R186, R190: a record that none takes in joins at the back if there is room, and else is lost and counted. -/
theorem NoticeQueue.hand_of_takes_not {q : NoticeQueue} {n : Notice} (h : ∀ r ∈ q.records, r.takes n = false) :
    q.hand n = if q.records.length < 32 ∧ (n.merges = true → q.records.countP Notice.merges < 28)
      then { q with records := q.records ++ [n] } else { q with lost := satInc8 q.lost } := by
  have hany : q.records.any (·.takes n) = false := by simpa using h
  rcases q.hand_cases n with ⟨htaken, -⟩ | ⟨-, hroom, e⟩ | ⟨-, hroom, e⟩
  · cases hany.symm.trans htaken
  · rw [e, if_pos (NoticeQueue.room_iff.mp hroom)]
  · rw [e, if_neg (mt NoticeQueue.room_iff.mpr (by simp [hroom]))]

/-- Where the queue holds no record of n's kind for n's job, none takes n in. -/
theorem NoticeQueue.takes_not_of_absent {q : NoticeQueue} {n : Notice}
    (hdone : ∀ j e m p b, n = .jobDone j e m p b → ∀ e' m' p' b', Notice.jobDone j e' m' p' b' ∉ q.records)
    (hover : ∀ j i, n = .overrun j i → ∀ i', Notice.overrun j i' ∉ q.records) :
    ∀ r ∈ q.records, r.takes n = false := by
  intro r hr
  cases n with
  | jobDone j e m p b =>
    refine Bool.eq_false_iff.mpr fun htakes => ?_
    obtain ⟨_, _, _, _, rfl⟩ := Notice.takes_jobDone_iff.mp htakes
    exact hdone j e m p b rfl _ _ _ _ hr
  | overrun j i =>
    refine Bool.eq_false_iff.mpr fun htakes => ?_
    obtain ⟨_, rfl⟩ := Notice.takes_overrun_iff.mp htakes
    exact hover j i rfl _ hr
  | started _ | jobFault _ _ _ _ | noticeLost _ => exact Notice.takes_eq_false_of_merges rfl r

end Sys2Proof.Machine

namespace Sys2Proof
open Sys2Proof.Machine

/-- Settles O51: the limits leave one record that takes a JOB_DONE or an OVERRUN in, and the merge changes that record alone;
what none takes in joins at the back or is lost, by the room there is. -/
theorem handingANotice : Obligations.HandingANotice :=
  ⟨fun _ _ _ _ _ _ _ _ _ _ _ _ hq hrec =>
      NoticeQueue.hand_of_takes hq hrec (Notice.takes_jobDone_iff.mpr ⟨_, _, _, _, rfl⟩),
    fun _ _ _ _ _ _ hq hrec => NoticeQueue.hand_of_takes hq hrec (Notice.takes_overrun_iff.mpr ⟨_, rfl⟩),
    fun _ _ hdone hover => NoticeQueue.hand_of_takes_not (NoticeQueue.takes_not_of_absent hdone hover),
    Notice.merges_iff⟩

end Sys2Proof
end

section
/-! SUPPORT. What a command can do, said once: every command but RSTN_RISE is a sequence of moves, each a change of State that
the manual describes as one, under the conditions it has there. An invariant is then shown for each move. -/
namespace Sys2Proof.Machine

/-! ### The moves -/

/-- A change at the link controller and the interpreter that takes or hands on a frame or an answer (02, 03). -/
inductive LinkMove (s : State) : State → Prop
  | receive (rx : Receiver) (checks formats drops : Half) :
    LinkMove s { s with link := { s.link with
      rx := rx, checkFailures := checks, formatErrors := formats, dropped := drops } }
  | refuse (a : Answer) (free : s.link.refusal = none) :
    LinkMove s (State.enqueueAnswer { s with link := { s.link with refusal := some a } } .refusal)
  | accept (p : Fin 4) (tag typ : Byte) (payload : List Byte) (crc : Half) (free : s.place p = .empty) :
    LinkMove s (s.accept p tag typ payload crc)
  | replay (p : Fin 4) (a : Answer) (free : s.place p = .empty) :
    LinkMove s ((s.setPlace p (.replayed a)).enqueueAnswer (.place p))
  | boundary : LinkMove s s.frameBoundary
  | byteSent (f : TxFrame) (sent clocks : Nat) (tx : s.link.tx = some f) :
    LinkMove s { s with link := { s.link with tx := some { f with sent := sent }, txClocks := clocks } }
  | noticeSent : LinkMove s { s with link := { s.link with tx := none, txClocks := 0 } }
  | answerSent (r : AnswerRef) (sending : s.link.sending = some r) (stays : ∀ p, r = .place p → s.interp ≠ .resetWait p) :
    LinkMove s (State.freeAnswer { s with link := { s.link with tx := none, txClocks := 0 } } r)
  | reply (p : Fin 4) (w : Work) (r : Request) (res : Result) (data : List Byte) (executing : s.interp = .executing p w)
    (noWrite : ∀ a d n, w ≠ .writing a d n) (held : s.place p = .request r) : LinkMove s (s.reply p r res data)
  | awaitReset (p : Fin 4) (r : Request) (executing : s.interp = .executing p .fresh) (held : s.place p = .request r) :
    LinkMove s ((s.placeAnswer p r .ok []).setInterp (.resetWait p))

/-- An event of the pass x of an engine (08). -/
inductive PassMove (s : State) (x : Pass) : State → Prop
  | select (lead : (s.eng x.chan).state = .lead) : PassMove s x (s.assertSelect x)
  | leadEnd (lead : (s.eng x.chan).state = .lead) : PassMove s x (s.leadDone x)
  | ready (busy : (s.eng x.chan).state = .busyWait) : PassMove s x (s.afterBusy x)
  | timeout (busy : (s.eng x.chan).state = .busyWait) : PassMove s x (s.enterLag x (.fault .busyTimeout))
  | byteEnd (b : Byte) (can : (s.eng x.chan).byteCanEnd = true) : PassMove s x (s.endByte x b)
  | bits (b : Byte) (can : (s.eng x.chan).byteCanEnd = true) (new : (s.eng x.chan).inByte = none) :
    PassMove s x (s.bitsArrived x b)
  | gapEnd (gap : (s.eng x.chan).state = .gap) (goes : (s.eng x.chan).ended = false) : PassMove s x (s.startShift x)
  | pulseStays (unit : (s.eng x.chan).state = .unitEnd) (owes : (s.eng x.chan).owed = true) : PassMove s x (s.waitForStore x)
  | pulseEnd (unit : (s.eng x.chan).state = .unitEnd) (paid : (s.eng x.chan).owed = false)
    (goes : (s.eng x.chan).ended = false) : PassMove s x (s.unitSteps x)
  | lagEnd (lag : (s.eng x.chan).state = .lag) : PassMove s x (s.lagDone x)
  | attempt (wait : (s.eng x.chan).state = .pollWait) : PassMove s x (s.startPass x)
  | readCur (rest : List Ask) (k : Nat) (b : Byte) (asked : (s.eng x.chan).asks = .read :: rest)
    (waits : (s.eng x.chan).cur = .waiting k) :
    PassMove s x (s.setEng x.chan { s.eng x.chan with asks := rest, cur := .held b })
  | readNext (rest : List Ask) (k : Nat) (b : Byte) (asked : (s.eng x.chan).asks = .read :: rest)
    (read : ∀ k, (s.eng x.chan).cur ≠ .waiting k) (waits : (s.eng x.chan).nxt = .waiting k) :
    PassMove s x (s.setEng x.chan { s.eng x.chan with asks := rest, nxt := .held b })
  | readNone (rest : List Ask) (asked : (s.eng x.chan).asks = .read :: rest)
    (cur : ∀ k, (s.eng x.chan).cur ≠ .waiting k) (nxt : ∀ k, (s.eng x.chan).nxt ≠ .waiting k) :
    PassMove s x (s.setEng x.chan { s.eng x.chan with asks := rest })
  | stored (rest : List Ask) (b : Byte) (asked : (s.eng x.chan).asks = .store b :: rest)
    (early : (s.eng x.chan).owed = false) :
    PassMove s x (s.setEng x.chan { s.eng x.chan with asks := rest })
  | storedOwed (rest : List Ask) (b : Byte) (asked : (s.eng x.chan).asks = .store b :: rest)
    (owes : (s.eng x.chan).owed = true) :
    PassMove s x (((s.setEng x.chan { s.eng x.chan with asks := rest }).countByte x).afterStore x)

/-- A change of jobs, arbiters and engines that no definition and no memory takes part in (06, 07, 08); `choice` says that
the command makes a fresh choice. -/
inductive EngineMove (choice : Bool) (s : State) : State → Prop
  | trigger (j : Fin 64) : EngineMove choice s (s.trigger j)
  | flags (c : Fin 4) (held due : Bool) : EngineMove choice s (s.setArb c { s.arb c with held := held, choiceDue := due })
  | dueAll : EngineMove choice s s.choiceDueAll
  | disarm (j : Fin 64) (ready : (s.job j).rt.state = .ready) : EngineMove choice s (s.disarm j)
  | clear (j : Fin 64) (halted : (s.job j).rt.state = .halted) :
    EngineMove choice s (s.setRt j { (s.job j).rt.takeSwap with state := .armed })
  | swap (j : Fin 64) (d : JobDef) (live : (s.job j).rt.state ≠ .free) (defn : (s.job j).defn = some d)
    (swaps : d.swaps = true) : EngineMove choice s (s.setRt j (s.job j).rt.askSwap)
  | cancelRunning (j : Fin 64) (running : (s.job j).rt.state = .running) : EngineMove choice s (s.cancelRunning j)
  | cancelSuspended (j : Fin 64) (suspended : (s.job j).rt.state = .suspended) : EngineMove choice s (s.cancelSuspended j)
  | dispatch (c : Fin 4) (k : JobClass) (j : Fin 64) (idle : (s.eng c).state = .idle) (ready : s.isReady c k j = true)
    (clear : s.blocked j = false) (slot : k = .normal → (s.arb c).slot = none)
    (may : choice = true) : EngineMove choice s (s.dispatch c j)
  | resume (c : Fin 4) (j : Fin 64) (idle : (s.eng c).state = .idle) (slot : (s.arb c).slot = some j) :
    EngineMove choice s (s.resume c j)
  | pass (x : Pass) (t : State) (hx : s.pass? x.chan = some x) (h : PassMove s x t) : EngineMove choice s t

/-- The commands at which a reset can take effect (R2, R44). -/
def mayReset : Instr → Bool
  | .rstnLow | .coreClockReturns | .uartByteSent | .spiByteComplete _ _ => true
  | _ => false

/-- The command that makes a fresh choice. -/
def mayChoose : Instr → Bool
  | .freshChoice _ => true
  | _ => false

theorem mayWriteMemory_of_mayReset {i : Instr} (h : mayReset i = true) : mayWriteMemory i = true := by
  cases i with
  | rstnLow | coreClockReturns | uartByteSent | spiByteComplete => rfl
  | _ => cases h

/-- One change of State within command i. -/
inductive Move (i : Instr) (s : State) : State → Prop
  | link (t : State) (h : LinkMove s t) : Move i s t
  | engine (t : State) (h : EngineMove (mayChoose i) s t) : Move i s t
  | pins (low clock : Bool) : Move i s { s with rstnLow := low, clock := clock }
  | spi (x : Spi) : Move i s { s with spi := x }
  | rotate (q : Fin 5) : Move i s { s with rotation := q }
  | pause (b : Bool) : Move i s (s.setNotices { s.notices with paused := b })
  | busyLevel (c : Fin 4) (b : Bool) : Move i s (s.setBusyLevel c b)
  | line (n : Fin 4) (l : Line) : Move i s (s.setLine n l)
  | reload (n : Fin 4) : Move i s (s.setTimer n { s.timer n with count := some (s.timer n).period.toNat })
  | timer (n : Fin 4) (period : Half) (run : Bool) : Move i s (s.setTimer n ((s.timer n).set period run))
  | target (n : Fin 16) (f : Profile) (p : List Byte) (parsed : parseProfile p = some f) (unused : s.targetInUse n = false)
    (may : i = .targetSet) :
    Move i s (s.setTarget n f)
  | define (j : Fin 64) (d : JobDef) (p : List Byte) (parsed : parseJobDef p = some d)
    (still : (s.job j).rt.state = .free ∨ (s.job j).rt.state = .armed) (may : i = .jobDefine) :
    Move i s (s.setJob j { defn := some d, rt := { Runtime.free with state := .armed } })
  | release (j : Fin 64) (still : (s.job j).rt.state = .armed ∨ (s.job j).rt.state = .halted) (may : i = .jobRelease) :
    Move i s (s.setJob j .free)
  | claim (p : Fin 4) (a : Nat) (data : List Byte) (executing : s.interp = .executing p .fresh)
    (inside : inMemory a data.length = true)
    (clear : s.windowsInUse.any (Window.overlaps { start := a, len := data.length }) = false) :
    Move i s { s with claim := some { start := a, len := data.length }, interp := .executing p (.writing a data 0) }
  | unclaim (p : Fin 4) (a : Nat) (data : List Byte) (n : Nat) (r : Request)
    (executing : s.interp = .executing p (.writing a data n)) (held : s.place p = .request r) :
    Move i s (State.reply { s with claim := none } p r .ok [])
  | beginRead (p : Fin 4) (a n : Nat) (executing : s.interp = .executing p .fresh) (inside : inMemory a n = true) :
    Move i s (s.setInterp (.executing p (.reading a n [])))
  | wrote (p : Fin 4) (a : Nat) (data : List Byte) (n : Nat) (executing : s.interp = .executing p (.writing a data n))
    (more : n < data.length) : Move i s (s.setInterp (.executing p (.writing a data (n + 1))))
  | read (p : Fin 4) (a n : Nat) (got : List Byte) (b : Byte) (executing : s.interp = .executing p (.reading a n got))
    (more : got.length < n) : Move i s (s.setInterp (.executing p (.reading a n (got ++ [b]))))
  | write (a : Nat) (b : Byte) (may : mayWriteMemory i = true) : Move i s (s.setMem (s.mem.write a b))
  | startUp (trg busy : BitVec 4) (may : mayWriteMemory i = true) : Move i s
    (State.hand { (s.firstLevels trg busy).setRx .hunting with mem := [], phase := .running, clearPos := 0 } (.started .power))
  | abort (c : Fin 4) (may : mayWriteMemory i = true) : Move i s (s.abortChannel c)
  | reset (u : State) (link : LinkSide s u) (may : mayReset i = true) : Move i s u.resetRequest
  | powerOn (may : mayReset i = true) : Move i s s.powerOn

/-- What a command does: moves, one after the other. -/
abbrev Moves (i : Instr) : State → State → Prop := Relation.ReflTransGen (Move i)

namespace Moves

variable {i : Instr} {s t u : State}

theorem one (h : Move i s t) : Moves i s t := .single h

theorem link (h : LinkMove s t) : Moves i s t := one (.link t h)

theorem engine (h : EngineMove (mayChoose i) s t) : Moves i s t := one (.engine t h)

/-- An event of a pass. -/
theorem pass {x : Pass} (hx : s.pass? x.chan = some x) (h : PassMove s x t) : Moves i s t := engine (.pass x t hx h)

/-- A property that every move keeps is kept by moves one after the other. -/
theorem keep {P : State → Prop} (hP : ∀ s t, Move i s t → P s → P t) (h : Moves i s t) (hs : P s) : P t := by
  induction h with
  | refl => exact hs
  | tail _ hmove ih => exact hP _ _ hmove ih

/-- The frame boundary that ends a command is a move. -/
theorem boundary (h : Moves i s t) : Moves i s t.uartBoundary := by
  unfold State.uartBoundary
  split
  · exact h.tail (.link _ .boundary)
  · exact h

theorem done (h : Moves i s u) (e : u.done = .next t) : Moves i s t := by
  cases e; exact h.boundary

/-! ### The interpreter's requests -/

/-- The answer of a request that is being carried out, the jobs and channels having changed at most. -/
theorem reply {p : Fin 4} {r : Request} (h : Moves i s u) (hs : s.current = some (p, r)) (hi : u.interp = s.interp)
    (hl : u.link.places = s.link.places) (res : Result) (data : List Byte) : Moves i s (u.reply p r res data) := by
  obtain ⟨-, hinterp, hplace⟩ := State.current_eq hs
  refine h.tail (.link _ (.reply p .fresh r res data (hi.trans hinterp) (by simp) ?_))
  rw [← hplace]; simp [State.place, hl]

/-- An answer and nothing else. -/
theorem answer {p : Fin 4} {r : Request} (hs : s.current = some (p, r)) (res : Result) (data : List Byte) :
    Moves i s (s.reply p r res data) := reply .refl hs rfl rfl res data

theorem engineReply {p : Fin 4} {r : Request} (h : EngineMove (mayChoose i) s u) (side : EngineSide s u)
    (hs : s.current = some (p, r)) (res : Result) (data : List Byte) : Moves i s (u.reply p r res data) :=
  (engine h).reply hs side.interp (by rw [side.link]) res data

theorem serve {code : Byte} {body : Fin 4 → Request → State}
    (h : ∀ p r, s.current = some (p, r) → Moves i s (body p r)) (e : s.serve code body = .next t) : Moves i s t := by
  obtain ⟨t', e', cases⟩ := s.serve_next code body
  cases e.symm.trans e'
  rcases cases with rfl | ⟨p, r, hs, -, ⟨-, rfl⟩ | rfl⟩
  · exact .refl
  · exact (h p r hs).boundary
  · rw [← State.reply_eq]; exact (answer hs _ _).boundary

theorem serveJob {code : Byte} {body : Fin 4 → Request → Fin 64 → State}
    (h : ∀ p r j, s.current = some (p, r) → Moves i s (body p r j)) (e : s.serveJob code body = .next t) : Moves i s t := by
  refine serve (fun p r hs => ?_) e
  split
  · exact answer hs _ _
  · exact h p r _ hs

/-! ### The link -/

theorem setRx (s : State) (r : Receiver) : Moves i s (s.setRx r) := link (.receive r _ _ _)

theorem formatError (s : State) : Moves i s s.formatError := link (.receive _ _ _ _)

theorem breakFrame (s : State) : Moves i s s.breakFrame := by
  unfold State.breakFrame
  split
  · exact .refl
  · exact formatError s

theorem refuse (s : State) (tag typ : Byte) : Moves i s (s.refuse tag typ) := by
  unfold State.refuse
  split
  · exact link (.receive _ _ _ _)
  · exact link (.refuse _ ‹_›)

end Moves

/-- A free place is empty. -/
theorem State.place_of_freePlace {s : State} {p : Fin 4} (h : s.freePlace = some p) : s.place p = .empty := by
  simpa using List.find?_some h

namespace Moves

variable {i : Instr} {s t u : State}

theorem goodFrame (s : State) (tag typ : Byte) (payload : List Byte) (crc : Half) :
    Moves i s (s.goodFrame tag typ payload crc) := by
  unfold State.goodFrame
  split
  · unfold State.duplicate
    split
    · exact .refl
    · split
      · exact link (.replay _ _ (State.place_of_freePlace ‹_›))
      · exact refuse s tag typ
  · split
    · exact link (.accept _ _ _ _ _ (State.place_of_freePlace ‹_›))
    · exact refuse s tag typ

theorem checkFrame (s : State) (b : Byte) : Moves i s (s.checkFrame b) := by
  unfold State.checkFrame
  dsimp only
  split
  · exact (setRx s .hunting).trans (goodFrame _ _ _ _ _)
  · exact link (.receive _ _ _ _)

theorem rxByte (s : State) (b : Byte) : Moves i s (s.rxByte b) := by
  unfold State.rxByte
  dsimp only
  split
  · split
    · exact setRx s _
    · exact .refl
  · split
    · exact formatError s
    · exact setRx s _
  · exact setRx s _
  · split
    · exact setRx s _
    · exact checkFrame s b

/-- The end of a frame frees its answer's place, or is the end of the RESET answer and resets the part. -/
theorem frameSent {f : TxFrame} (hf : s.link.tx = some f) (may : mayReset i = true) : Moves i s (s.frameSent f.source) := by
  have idle : LinkSide s { s with link := { s.link with tx := none, txClocks := 0 } } := by
    constructor <;> first | exact id | rfl
  unfold State.frameSent
  split
  · exact link .noticeSent
  · rename_i r hsrc
    have hsending : s.link.sending = some r := by
      obtain ⟨src, bytes, sent⟩ := f
      cases hsrc
      simp [Link.sending, hf]
    have hi : ∀ u : State, (u.freeAnswer r).interp = u.interp := fun u => by cases r <;> rfl
    cases r with
    | refusal =>
      dsimp only
      split
      · rename_i heq; cases heq
      · exact link (.answerSent .refusal hsending fun p hp => by cases hp)
    | place q =>
      dsimp only
      split
      · rename_i p q' hinterp heq
        cases heq
        split
        · exact one (.reset _ (idle.trans (State.freeAnswer_side _ _)) may)
        · rename_i hne
          refine link (.answerSent (.place q) hsending fun k hk hreset => hne ?_)
          cases hk
          simpa using (hi _).symm.trans hinterp |>.symm.trans hreset
      · rename_i hno
        refine link (.answerSent (.place q) hsending fun k hk hreset => hno k k ?_ hk)
        rw [hi]
        exact hreset

theorem txByteSent (s : State) (may : mayReset i = true) : Moves i s s.txByteSent := by
  unfold State.txByteSent
  split
  · exact .refl
  · rename_i f hf
    split
    · exact link (.byteSent f _ _ hf)
    · exact frameSent hf may

theorem slotSent (s : State) (k : Slot) (may : mayReset i = true) : Moves i s (s.slotSent k) := by
  cases k with
  | fill => exact .refl
  | frameByte => exact txByteSent s may

theorem slotStart (s : State) : Moves i s s.slotStart := by
  have choice : Moves i s (if s.phase = .running then s.frameBoundary else s) := by
    split
    · exact link .boundary
    · exact .refl
  exact choice.tail (.spi _)

/-! ### Jobs, channels and engines -/

theorem engineEvent {c : Fin 4} {can : Bool} {f : Pass → State}
    (h : ∀ x, x.chan = c → s.pass? x.chan = some x → can = true → Moves i s (f x))
    (e : s.engineEvent c can f = .next t) : Moves i s t := by
  obtain ⟨t', e', cases⟩ := s.engineEvent_next c can f
  cases e.symm.trans e'
  rcases cases with rfl | rfl | ⟨x, hx, hcan, rfl⟩
  · exact .refl
  · exact boundary .refl
  · obtain ⟨hchan, -⟩ := State.pass?_eq hx
    exact (h x hchan (by rw [hchan]; exact hx) hcan).boundary

theorem triggers (l : List (Fin 64)) (s : State) : Moves i s (l.foldl State.trigger s) := by
  induction l generalizing s with
  | nil => exact .refl
  | cons j l ih => exact (engine (.trigger j)).trans (ih _)

theorem triggerAll (s : State) (src : TrigSource) : Moves i s (s.triggerAll src) := triggers _ s

end Moves

/-- What a fresh choice takes is READY, unblocked and on the channel. -/
theorem State.ready_of_firstUnblocked {s : State} {c : Fin 4} {k : JobClass} {j : Fin 64} (h : s.firstUnblocked c k = some j) :
    s.isReady c k j = true ∧ s.blocked j = false := by
  simpa using List.find?_some h

namespace Moves

variable {i : Instr} {s t u : State}

theorem choose {c : Fin 4} (idle : (s.eng c).state = .idle) (may : mayChoose i = true) : Moves i s (s.choose c) := by
  unfold State.choose
  split
  · rename_i j hj
    obtain ⟨hready, hclear⟩ := State.ready_of_firstUnblocked hj
    exact engine (.dispatch c .urgent j idle hready hclear (by simp) may)
  · split
    · exact engine (.resume c _ idle ‹_›)
    · split
      · rename_i j hj
        obtain ⟨hready, hclear⟩ := State.ready_of_firstUnblocked hj
        exact engine (.dispatch c .normal j idle hready hclear (fun _ => ‹_›) may)
      · exact .refl

theorem freshChoice {c : Fin 4} (e : execFreshChoice c s = .next t) : Moves (.freshChoice c) s t := by
  unfold execFreshChoice at e
  split at e
  · have due := engine (i := .freshChoice c) (EngineMove.flags (s := s) c (s.arb c).held false)
    dsimp only at e
    split at e
    · rename_i h
      simp only [Bool.and_eq_true, decide_eq_true_eq] at h
      exact done (due.trans (choose (by simpa using h.1) rfl)) e
    · exact done due e
  · cases e; exact .refl

/-! ### Grants of the memory arbiter -/

theorem access {addr : Nat} (h : Moves i s u) (e : access addr u = .next t) : Moves i s t := by
  unfold Machine.access at e
  split at e
  · exact h.done e
  · cases e

theorem grantRead {x : Pass} {rest : List Ask} (hx : s.pass? x.chan = some x) (asked : (s.eng x.chan).asks = .read :: rest)
    (e : s.grantRead x rest = .next t) : Moves i s t := by
  unfold State.grantRead at e
  dsimp only at e
  split at e
  · exact access (pass hx (.readCur rest _ _ asked ‹_›)) e
  · exact access (pass hx (.readNext rest _ _ asked ‹_› ‹_›)) e
  · exact done (pass hx (.readNone rest asked (by simp_all) (by simp_all))) e

theorem grantStore {x : Pass} {b : Byte} {rest : List Ask} (hx : s.pass? x.chan = some x)
    (asked : (s.eng x.chan).asks = .store b :: rest) (e : s.grantStore x b rest = .next t) : Moves .memoryGrant s t := by
  unfold State.grantStore at e
  refine access ?_ e
  have written : Moves .memoryGrant s (s.setMem (s.mem.write (s.storeAddr x) b)) := one (.write _ _ rfl)
  refine written.trans (pass (x := x) hx ?_)
  split
  · exact .storedOwed rest b asked ‹_›
  · exact .stored rest b asked (by simpa using ‹¬(s.eng x.chan).owed = true›)

theorem grantEngine {c : Fin 4} (e : s.grantEngine c = .next t) : Moves .memoryGrant s t := by
  unfold State.grantEngine at e
  split at e
  · cases e; exact .refl
  · rename_i x hx
    obtain ⟨rfl, -⟩ := State.pass?_eq hx
    split at e
    · cases e; exact .refl
    · exact grantRead hx ‹_› e
    · exact grantStore hx ‹_› e

theorem grantInterp (asking : s.asking 4 = true) (e : s.grantInterp = .next t) : Moves .memoryGrant s t := by
  unfold State.grantInterp at e
  split at e
  · rename_i p a data n hi
    have more : n < data.length := by simpa [State.asking, hi] using asking
    refine access ?_ e
    exact (one (.write _ _ rfl)).tail (.wrote p a data n hi more)
  · rename_i p a n got hi
    have more : got.length < n := by simpa [State.asking, hi] using asking
    exact access (one (.read p a n got _ hi more)) e
  all_goals cases e; exact .refl

end Moves

/-- The requester that is granted next asks. -/
theorem State.asking_of_nextRequester {s : State} {q : Fin 5} (h : s.nextRequester = some q) : s.asking q = true :=
  List.find?_some h

namespace Moves

variable {i : Instr} {s t u : State}

theorem memoryGrant (e : execMemoryGrant s = .next t) : Moves .memoryGrant s t := by
  unfold execMemoryGrant at e
  split at e
  · rename_i q _ hq
    have turn : Moves .memoryGrant s { s with rotation := q } := one (.rotate q)
    dsimp only at e
    split at e
    · exact turn.trans (grantEngine e)
    · have hq4 : q = 4 := by omega
      subst hq4
      have asking : s.asking 4 = true := State.asking_of_nextRequester hq
      exact turn.trans (grantInterp asking e)
  · cases e; exact .refl

end Moves
end Sys2Proof.Machine
end

section
/-! SUPPORT. Each command is a sequence of moves (`exec_moves`), one lemma per command that is more than one request or event. -/
namespace Sys2Proof.Machine
namespace Moves

variable {i : Instr} {s t u : State}

/-! ### Reset, clock and link pins -/

theorem rstnLow (e : execRstnLow s = .next t) : Moves .rstnLow s t := by
  unfold execRstnLow at e
  split at e
  · cases e; exact .refl
  · split at e <;> cases e
    · exact (one (.powerOn rfl)).tail (.pins true s.powerOn.clock)
    · exact one (.pins true s.clock)

theorem coreClockReturns (e : execCoreClockReturns s = .next t) : Moves .coreClockReturns s t := by
  unfold execCoreClockReturns at e
  split at e
  · cases e; exact .refl
  · split at e
    · cases e; exact (one (.powerOn rfl)).tail (.pins s.powerOn.rstnLow true)
    · exact done (one (.pins s.rstnLow true)) e

theorem startUpClearComplete {trg busy : BitVec 4} (e : execStartUpClearComplete trg busy s = .next t) :
    Moves (.startUpClearComplete trg busy) s t := by
  unfold execStartUpClearComplete at e
  split at e
  · exact done (one (.startUp trg busy rfl)) e
  · cases e; exact .refl

theorem uartCharacterComplete {b : Byte} {high : Bool} (e : execUartCharacterComplete b high s = .next t) : Moves i s t := by
  unfold execUartCharacterComplete at e
  split at e
  · refine done ?_ e
    split
    · exact rxByte s b
    · exact breakFrame s
  · cases e; exact .refl

theorem silenceAbort (e : execSilenceAbort s = .next t) : Moves i s t := by
  unfold execSilenceAbort at e
  split at e
  · exact done (breakFrame s) e
  · cases e; exact .refl

theorem lselnFall (e : execLselnFall s = .next t) : Moves i s t := by
  unfold execLselnFall at e
  split at e
  · cases e; exact .refl
  · have low : Moves i s { s with spi := { s.spi with lselnLow := true } } := one (.spi _)
    dsimp only at e
    split at e <;> cases e
    · exact low.trans (slotStart _)
    · exact low

theorem lselnRise (e : execLselnRise s = .next t) : Moves i s t := by
  unfold execLselnRise at e
  split at e
  · cases e; exact .refl
  · have high : Moves i s { s with spi := { lselnLow := false, ignored := false, slot := none } } := one (.spi _)
    dsimp only at e
    split at e <;> cases e
    · exact high.trans (breakFrame _)
    · exact high

theorem spiByteComplete {b : Byte} {outFirst : Bool} (e : execSpiByteComplete b outFirst s = .next t) :
    Moves (.spiByteComplete b outFirst) s t := by
  unfold execSpiByteComplete at e
  repeat' split at e
  all_goals cases e
  · exact .refl
  · exact .refl
  · exact slotStart s
  · exact (slotSent s _ rfl).trans ((rxByte _ b).trans (slotStart _))
  · exact (rxByte s b).trans ((slotSent _ _ rfl).trans (slotStart _))

theorem uartByteSent (e : execUartByteSent s = .next t) : Moves .uartByteSent s t := by
  unfold execUartByteSent at e
  split at e
  · exact done (txByteSent s rfl) e
  · cases e; exact .refl

/-! ### Requests on the part, on targets and on buffer memory -/

theorem unknownRequestType (e : execUnknownRequestType s = .next t) : Moves i s t := by
  unfold execUnknownRequestType at e
  split at e
  · cases e; exact .refl
  · split at e
    · cases e; exact .refl
    · exact done (answer ‹_› _ _) e

theorem status (e : execStatus s = .next t) : Moves i s t := by
  refine serve (fun p r hs => ?_) e
  split
  · exact answer hs _ _
  · split
    · have cleared : Moves i s s.clearCounters := link (.receive _ _ _ _)
      exact cleared.reply hs rfl rfl _ _
    · exact answer hs _ _

theorem reset (e : execReset s = .next t) : Moves i s t := by
  refine serve (fun p r hs => ?_) e
  obtain ⟨-, hinterp, hplace⟩ := State.current_eq hs
  exact link (.awaitReset p r hinterp hplace)

theorem noticeControl (e : execNoticeControl s = .next t) : Moves i s t := by
  refine serve (fun p r hs => ?_) e
  dsimp only
  split
  · exact answer hs _ _
  · rename_i b _
    exact reply (one (.pause b)) hs rfl rfl _ _

theorem targetSet (e : execTargetSet s = .next t) : Moves .targetSet s t := by
  refine serve (fun p r hs => ?_) e
  split
  · split
    · exact answer hs _ _
    · rename_i hparse hunused
      exact reply (one (.target _ _ _ hparse (Bool.eq_false_iff.mpr hunused) rfl)) hs rfl rfl _ _
  · exact answer hs _ _

theorem targetGet (e : execTargetGet s = .next t) : Moves i s t := by
  refine serve (fun p r hs => ?_) e
  split <;> exact answer hs _ _

theorem memWrite (e : execMemWrite s = .next t) : Moves i s t := by
  refine serve (fun p r hs => ?_) e
  obtain ⟨-, hinterp, -⟩ := State.current_eq hs
  dsimp only
  split
  · exact answer hs _ _
  · split
    · exact answer hs _ _
    · rename_i hin hclear
      exact one (.claim p _ _ hinterp (by rwa [Bool.not_eq_true, Bool.not_eq_false'] at hin) (Bool.not_eq_true _ ▸ hclear))

theorem memWriteDone (e : execMemWriteDone s = .next t) : Moves i s t := by
  unfold execMemWriteDone at e
  split at e <;> try (cases e; exact .refl)
  split at e <;> try (cases e; exact .refl)
  split at e <;> try (cases e; exact .refl)
  exact done ((one (.unclaim _ _ _ _ _ ‹_› ‹_›)).trans (engine .dueAll)) e

theorem memRead (e : execMemRead s = .next t) : Moves i s t := by
  refine serve (fun p r hs => ?_) e
  obtain ⟨-, hinterp, -⟩ := State.current_eq hs
  dsimp only
  split
  · exact answer hs _ _
  · rename_i h
    simp only [Bool.or_eq_true, Bool.not_eq_true', not_or, Bool.not_eq_false] at h
    exact one (.beginRead p _ _ hinterp h.1.1)

theorem memReadDone (e : execMemReadDone s = .next t) : Moves i s t := by
  unfold execMemReadDone at e
  split at e <;> try (cases e; exact .refl)
  split at e <;> try (cases e; exact .refl)
  split at e <;> try (cases e; exact .refl)
  exact done (link (.reply _ _ _ _ _ ‹_› (by simp) ‹_›)) e

/-! ### Requests on jobs -/

theorem jobDefine (e : execJobDefine s = .next t) : Moves .jobDefine s t := by
  refine serveJob (fun p r j hs => ?_) e
  dsimp only
  split
  · exact answer hs _ _
  · rename_i d hd
    split
    · exact reply (one (.define j d _ hd (.inl ‹_›) rfl)) hs rfl rfl _ _
    · exact reply (one (.define j d _ hd (.inr ‹_›) rfl)) hs rfl rfl _ _
    all_goals exact answer hs _ _

theorem jobGet (e : execJobGet s = .next t) : Moves i s t := by
  refine serveJob (fun p r j hs => ?_) e
  split <;> exact answer hs _ _

theorem jobRelease (e : execJobRelease s = .next t) : Moves .jobRelease s t := by
  refine serveJob (fun p r j hs => ?_) e
  split
  · exact reply (one (.release j (.inl ‹_›) rfl)) hs rfl rfl _ _
  · exact reply (one (.release j (.inr ‹_›) rfl)) hs rfl rfl _ _
  all_goals exact answer hs _ _

theorem jobStart (e : execJobStart s = .next t) : Moves i s t := by
  refine serveJob (fun p r j hs => ?_) e
  split
  · exact answer hs _ _
  · exact engineReply (.trigger j) (s.trigger_side j) hs _ _

theorem jobCancel (e : execJobCancel s = .next t) : Moves i s t := by
  refine serveJob (fun p r j hs => ?_) e
  dsimp only
  split
  · exact answer hs _ _
  · exact answer hs _ _
  · exact answer hs _ _
  · exact engineReply (.disarm j ‹_›) (s.setRt_side j _) hs _ _
  · exact engineReply (.cancelRunning j ‹_›) (s.cancelRunning_side j) hs _ _
  · exact engineReply (.cancelSuspended j ‹_›) (s.cancelSuspended_side j) hs _ _

theorem jobClear (e : execJobClear s = .next t) : Moves i s t := by
  refine serveJob (fun p r j hs => ?_) e
  dsimp only
  split
  · exact engineReply (.clear j ‹_›) (s.setRt_side j _) hs _ _
  all_goals exact answer hs _ _

theorem jobSwap (e : execJobSwap s = .next t) : Moves i s t := by
  refine serveJob (fun p r j hs => ?_) e
  dsimp only
  split
  · exact answer hs _ _
  · exact answer hs _ _
  · rename_i d hd hfree
    split
    · exact engineReply (.swap j d (by simpa using hfree) hd ‹_›) (s.setRt_side j _) hs _ _
    · exact answer hs _ _

/-! ### Requests on channels, timers and lines -/

theorem channelHold (e : execChannelHold s = .next t) : Moves i s t := by
  refine serve (fun p r hs => ?_) e
  split
  · exact engineReply (.flags _ _ _) (s.setArb_side _ _) hs _ _
  · exact answer hs _ _

theorem channelAbort (e : execChannelAbort s = .next t) : Moves .channelAbort s t := by
  refine serve (fun p r hs => ?_) e
  split
  · exact answer hs _ _
  · rename_i c _
    have side := s.abortChannel_side c
    exact reply (one (.abort c rfl)) hs side.interp (by rw [side.link]; rfl) _ _

theorem timerSet (e : execTimerSet s = .next t) : Moves i s t := by
  refine serve (fun p r hs => ?_) e
  dsimp only
  split
  · exact reply (one (.timer _ _ _)) hs rfl rfl _ _
  · exact answer hs _ _

theorem lineSet (e : execLineSet s = .next t) : Moves i s t := by
  refine serve (fun p r hs => ?_) e
  dsimp only
  split
  · exact reply (one (.line _ _)) hs rfl rfl _ _
  · exact answer hs _ _

/-! ### Timers, lines and levels -/

theorem timerExpiry {n : Fin 4} (e : execTimerExpiry n s = .next t) : Moves i s t := by
  unfold execTimerExpiry at e
  split at e
  · exact done ((one (.reload n)).trans (triggerAll _ _)) e
  · cases e; exact .refl

theorem lineEdge {n : Fin 4} {level : Bool} (e : execLineEdge n level s = .next t) : Moves i s t := by
  unfold execLineEdge at e
  split at e
  · have seen : Moves i s (s.setLine n { s.line n with seen := some level }) := one (.line _ _)
    dsimp only at e
    split at e
    · exact done (seen.trans (triggerAll _ _)) e
    · exact done seen e
  · cases e; exact .refl

theorem busyLevelSeen {c : Fin 4} {high : Bool} (e : execBusyLevelSeen c high s = .next t) : Moves i s t := by
  unfold execBusyLevelSeen at e
  split at e
  · have seen : Moves i s (s.setBusyLevel c high) := one (.busyLevel c high)
    refine done ?_ e
    split
    · unfold State.onPass
      split
      · exact seen
      · rename_i hbusy _ x hx
        obtain ⟨rfl, -⟩ := State.pass?_eq hx
        beta_reduce
        split
        · exact seen
        · exact seen.trans (pass hx (.ready hbusy))
    · exact seen
  · cases e; exact .refl

/-! ### Events of a pass -/

theorem busyReady {c : Fin 4} (e : execBusyReady c s = .next t) : Moves i s t := by
  refine engineEvent (fun x hc hx can => ?_) e
  subst hc
  exact (one (.busyLevel x.chan _)).trans (pass (x := x) hx (.ready (by simpa using can)))

theorem unitEndComplete {c : Fin 4} (e : execUnitEndComplete c s = .next t) : Moves i s t := by
  refine engineEvent (fun x hc hx can => ?_) e
  subst hc
  obtain ⟨hstate, hgoes⟩ := by simpa using can
  split
  · exact pass hx (.pulseStays hstate ‹_›)
  · exact pass hx (.pulseEnd hstate (by simpa using ‹¬(s.eng x.chan).owed = true›) hgoes)

end Moves

/-- What a command that answers a next state has done, but for RSTN_RISE: moves, some of
which are left to the commands that may make them. -/
theorem exec_moves {i : Instr} {s t : State} (hi : ∀ n m a b, i ≠ .rstnRise n m a b) (e : exec i s = .next t) :
    Moves i s t := by
  cases i with
  | rstnRise n m a b => exact absurd rfl (hi n m a b)
  | rstnLow => exact .rstnLow e
  | startUpClearComplete trg busy => exact .startUpClearComplete e
  | uartCharacterComplete b high => exact .uartCharacterComplete e
  | silenceAbort => exact .silenceAbort e
  | lselnFall => exact .lselnFall e
  | lselnRise => exact .lselnRise e
  | spiByteComplete b f => exact .spiByteComplete e
  | uartByteSent => exact .uartByteSent e
  | unknownRequestType => exact .unknownRequestType e
  | identify => exact .serve (fun _ _ hs => .answer hs _ _) e
  | status => exact .status e
  | reset => exact .reset e
  | noticeControl => exact .noticeControl e
  | targetSet => exact .targetSet e
  | targetGet => exact .targetGet e
  | memWrite => exact .memWrite e
  | memWriteDone => exact .memWriteDone e
  | memRead => exact .memRead e
  | memReadDone => exact .memReadDone e
  | memoryGrant => exact .memoryGrant e
  | jobDefine => exact .jobDefine e
  | jobGet => exact .jobGet e
  | jobStatus => exact .serveJob (fun _ _ _ hs => .answer hs _ _) e
  | jobRelease => exact .jobRelease e
  | jobStart => exact .jobStart e
  | jobCancel => exact .jobCancel e
  | jobClear => exact .jobClear e
  | jobSwap => exact .jobSwap e
  | channelHold => exact .channelHold e
  | channelAbort => exact .channelAbort e
  | timerSet => exact .timerSet e
  | lineSet => exact .lineSet e
  | timerExpiry n => exact .timerExpiry e
  | lineEdge n level => exact .lineEdge e
  | freshChoice c => exact .freshChoice e
  | busyReady c => exact .busyReady e
  | unitEndComplete c => exact .unitEndComplete e
  | coreClockStops => cases e; exact .one (.pins s.rstnLow false)
  | coreClockReturns => exact .coreClockReturns e
  | busyLevelSeen c high => exact .busyLevelSeen e
  | selectAssertion c =>
    refine .engineEvent (fun x hc hx can => ?_) e
    subst hc
    exact .pass hx (.select (by simp at can; exact can.1))
  | leadEnd c =>
    refine .engineEvent (fun x hc hx can => ?_) e
    subst hc
    exact .pass hx (.leadEnd (by simp at can; exact can.1))
  | busyTimeout c =>
    refine .engineEvent (fun x hc hx can => ?_) e
    subst hc
    exact .pass hx (.timeout (by simpa using can))
  | byteEnd c wire =>
    refine .engineEvent (fun x hc hx can => ?_) e
    subst hc
    exact .pass hx (.byteEnd _ can)
  | gapEnd c =>
    refine .engineEvent (fun x hc hx can => ?_) e
    subst hc
    simp only [Bool.and_eq_true, decide_eq_true_eq, Bool.not_eq_true'] at can
    exact .pass hx (.gapEnd can.1 can.2)
  | lagEnd c =>
    refine .engineEvent (fun x hc hx can => ?_) e
    subst hc
    exact .pass hx (.lagEnd (by simpa using can))
  | pollIntervalEnd c =>
    refine .engineEvent (fun x hc hx can => ?_) e
    subst hc
    exact .pass hx (.attempt (by simpa using can))
  | lastBitArrived c wire =>
    refine .engineEvent (fun x hc hx can => ?_) e
    subst hc
    simp only [Bool.and_eq_true, Option.isNone_iff_eq_none] at can
    exact .pass hx (.bits _ can.1 can.2)

end Sys2Proof.Machine
end

section
/-! SUPPORT. How an invariant is shown for every step: by the moves, the queue and the pins, and one core clock period. What a
move at the link or of the engines leaves as it was; buffer memory, the notice queue and the write claim. -/
namespace Sys2Proof.Machine

/-! ### Steps -/

/-- What an invariant has to keep for every step to keep it: the moves of the commands, the values that RSTN_RISE and the queue
set, the start-up clear and the count of one core clock. -/
structure Kept (P : State → Prop) : Prop where
  move : ∀ {i : Instr} {s t : State}, Move i s t → P s → P t
  pins : ∀ {s : State} (low : Bool) (phase : Phase) (pos : Nat) (straps : Straps) (spi : Spi) (queue : List Instr), P s →
    P { s with rstnLow := low, phase := phase, clearPos := pos, straps := straps, spi := spi, pending := queue }
  clear : ∀ {s : State} (a n : Nat), P s → P { s with mem := s.mem.write a 0, clearPos := n }
  countDown : ∀ {s : State}, P s → P s.countDown

/-- Each command keeps the invariant. -/
theorem Kept.exec {P : State → Prop} (h : Kept P) {i : Instr} {s t : State} (hs : P s) (e : exec i s = .next t) : P t := by
  by_cases hi : ∀ n m a b, i ≠ .rstnRise n m a b
  · exact (exec_moves hi e).keep (fun _ _ => h.move) hs
  · push Not at hi
    obtain ⟨n, mode, a, b, rfl⟩ := hi
    simp only [Machine.exec, execRstnRise] at e
    split at e
    · cases e; exact hs
    · split at e
      · cases e
      · cases e; exact h.pins _ _ _ _ _ s.pending hs

/-- One core clock period keeps the invariant. -/
theorem Kept.tick {P : State → Prop} (h : Kept P) {s : State} (hs : P s) : P s.tick := by
  unfold State.tick
  split
  · exact hs
  · split
    · exact hs
    · unfold State.clearNext
      split
      · exact h.clear _ _ hs
      · exact hs
    · exact h.countDown hs

/-- Each step keeps the invariant. -/
theorem Kept.step {P : State → Prop} (h : Kept P) {s t : State} (hs : P s) (e : step s = .next t) : P t := by
  unfold Machine.step at e
  split at e
  · cases e; exact h.tick hs
  · exact h.exec (h.pins s.rstnLow s.phase s.clearPos s.straps s.spi _ hs) e

/-! ### What the groups of moves leave as it was -/

theorem State.enqueueAnswer_side (s : State) (r : AnswerRef) : LinkSide s (s.enqueueAnswer r) := by
  constructor <;> first | exact id | rfl

theorem LinkMove.side {s t : State} (h : LinkMove s t) : LinkSide s t := by
  cases h with
  | receive | byteSent | noticeSent => constructor <;> first | exact id | rfl
  | refuse a _ =>
    exact LinkSide.trans (t := { s with link := { s.link with refusal := some a } })
      (by constructor <;> first | exact id | rfl) (State.enqueueAnswer_side _ _)
  | accept => exact s.accept_side _ _ _ _ _
  | replay => constructor <;> first | exact id | rfl
  | boundary => exact s.frameBoundary_side
  | answerSent r =>
    exact LinkSide.trans (t := { s with link := { s.link with tx := none, txClocks := 0 } })
      (by constructor <;> first | exact id | rfl) (State.freeAnswer_side _ r)
  | reply => exact s.reply_side _ _ _ _
  | awaitReset p r => exact (s.placeAnswer_side p r .ok []).trans (State.setInterp_side _ _)

theorem PassMove.side {s t : State} {x : Pass} (h : PassMove s x t) : EngineSide s t := by
  cases h with
  | select => exact s.assertSelect_side x
  | leadEnd => exact s.leadDone_side x
  | ready => exact s.afterBusy_side x
  | timeout => exact s.enterLag_side x _
  | byteEnd => exact s.endByte_side x _
  | bits => exact s.bitsArrived_side x _
  | gapEnd => exact s.startShift_side x
  | pulseStays => exact s.waitForStore_side x
  | pulseEnd => exact s.unitSteps_side x
  | lagEnd => exact s.lagDone_side x
  | attempt => exact s.startPass_side x
  | readCur | readNext | readNone | stored => exact s.setEng_side _ _
  | storedOwed => exact (s.setEng_side _ _).trans ((State.countByte_side _ x).trans (State.afterStore_side _ x))

theorem EngineMove.side {b : Bool} {s t : State} (h : EngineMove b s t) : EngineSide s t := by
  cases h with
  | trigger j => exact s.trigger_side j
  | flags => exact s.setArb_side _ _
  | dueAll => exact s.choiceDueAll_side
  | disarm | clear | swap => exact s.setRt_side _ _
  | cancelRunning j => exact s.cancelRunning_side j
  | cancelSuspended j => exact s.cancelSuspended_side j
  | dispatch c _ j => exact s.dispatch_side c j
  | resume c j => exact s.resume_side c j
  | pass _ _ _ h => exact h.side

/-! ### Buffer memory -/

theorem State.stopEngine_wf {s : State} (c : Fin 4) (h : Memory.wf s.mem) : Memory.wf (s.stopEngine c).mem := by
  rcases s.stopEngine_mem c with e | ⟨a, b, e⟩ <;> rw [e]
  · exact h
  · exact Memory.wf_write h a b

theorem kept_memory : Kept fun s => Memory.wf s.mem where
  move {i s t} h hs := by
    cases h with
    | link _ h => rw [h.side.mem]; exact hs
    | engine _ h => rw [h.side.mem]; exact hs
    | write a b => exact Memory.wf_write hs a b
    | startUp => exact Memory.wf_nil
    | abort c => rw [State.abortChannel_mem]; exact State.stopEngine_wf c hs
    | reset u link => rw [State.resetRequest_mem]; exact State.stopAll_wf (by rw [link.mem]; exact hs)
    | powerOn => rw [State.powerOn_mem]; exact State.stopAll_wf hs
    | unclaim p _ _ _ r => rw [(State.reply_side _ p r .ok []).mem]; exact hs
    | _ => exact hs
  pins _ _ _ _ _ _ hs := hs
  clear a _ hs := Memory.wf_write hs a 0
  countDown hs := hs

/-! ### The notice queue -/

theorem kept_notices : Kept fun s => s.notices.limits where
  move {i s t} h hs := by
    cases h with
    | link _ h => exact h.side.limits hs
    | engine _ h => exact h.side.limits hs
    | startUp => exact NoticeQueue.limits_hand hs _
    | abort c => exact (s.abortChannel_side c).limits hs
    | reset => rw [State.resetRequest_notices]; exact NoticeQueue.limits_started _
    | powerOn => rw [State.powerOn_notices]; exact NoticeQueue.limits_powerOn
    | unclaim p _ _ _ r => exact (State.reply_side _ p r .ok []).limits hs
    | _ => exact hs
  pins _ _ _ _ _ _ hs := hs
  clear _ _ hs := hs
  countDown hs := hs

/-! ### The write claim and the interpreter -/

/-- An interpreter that takes the next request writes nothing. -/
theorem State.claimMatches_takeNext {s : State} (h : s.claim = none) : s.takeNext.claimMatches := by
  unfold State.takeNext
  split <;> exact h

theorem State.claimMatches_of_parts {s t : State} (h : s.claimMatches) (interp : t.interp = s.interp)
    (claim : t.claim = s.claim) : t.claimMatches := by
  unfold State.claimMatches at *
  rw [interp, claim]; exact h

/-- While the interpreter does not write, the claim is free. -/
theorem State.claim_eq_none {s : State} {p : Fin 4} {w : Work} (h : s.claimMatches) (hi : s.interp = .executing p w)
    (hw : ∀ a d n, w ≠ .writing a d n) : s.claim = none := by
  unfold State.claimMatches at h
  rw [hi] at h
  cases w with
  | fresh => exact h
  | writing a d n => exact absurd rfl (hw a d n)
  | reading a n got => exact h.1

theorem LinkMove.claimMatches {s t : State} (h : LinkMove s t) (hs : s.claimMatches) : t.claimMatches := by
  cases h with
  | receive | byteSent | noticeSent | refuse | replay => exact hs
  | boundary => exact State.claimMatches_of_parts hs s.frameBoundary_link.1 s.frameBoundary_side.claim
  | answerSent r => cases r <;> exact hs
  | accept p tag typ payload crc =>
    have interp : ∀ i, s.interp = i → (s.accept p tag typ payload crc).interp =
        if i = .idle then .executing p .fresh else i := by
      intro i hi
      unfold State.accept
      dsimp only
      split <;> simp_all [State.setPlace]
    unfold State.claimMatches at *
    rw [interp _ rfl, (s.accept_side p tag typ payload crc).claim]
    split at hs <;> simp_all
  | reply p w r res data hi hw => exact State.claimMatches_takeNext (State.claim_eq_none hs hi hw)
  | awaitReset p r hi =>
    have free : s.claim = none := State.claim_eq_none hs hi (by simp)
    exact free

theorem kept_claimMatches : Kept State.claimMatches where
  move {i s t} h hs := by
    cases h with
    | link _ h => exact h.claimMatches hs
    | engine _ h => exact State.claimMatches_of_parts hs h.side.interp h.side.claim
    | abort c => exact State.claimMatches_of_parts hs (s.abortChannel_side c).interp (s.abortChannel_side c).claim
    | reset => simp [State.claimMatches]
    | powerOn => simp [State.claimMatches]
    | claim p a data hi hin => exact ⟨rfl, Nat.zero_le _, hin⟩
    | unclaim => exact State.claimMatches_takeNext rfl
    | beginRead p a n hi hin =>
      have free : s.claim = none := State.claim_eq_none hs hi (by simp)
      exact ⟨free, Nat.zero_le _, hin⟩
    | wrote p a data n hi more =>
      unfold State.claimMatches at hs
      rw [hi] at hs
      exact ⟨hs.1, more, hs.2.2⟩
    | read p a n got b hi more =>
      unfold State.claimMatches at hs
      rw [hi] at hs
      exact ⟨hs.1, by simpa using more, hs.2.2⟩
    | _ => exact hs
  pins _ _ _ _ _ _ hs := hs
  clear _ _ hs := hs
  countDown hs := hs

/-! ### The write claim and the windows in use -/

theorem State.mem_windowsInUse {s : State} {v : Window} :
    v ∈ s.windowsInUse ↔ ∃ j, (s.job j).rt.state.inUse = true ∧ v ∈ s.windowsOf j := by
  simp only [State.windowsInUse, allJobs, List.mem_flatMap, List.mem_finRange, true_and]
  refine exists_congr fun j => ?_
  split <;> simp_all

theorem Window.overlaps_comm (v w : Window) : v.overlaps w = w.overlaps v := Bool.and_comm _ _

/-- The windows of a job are read from its definition and its active window. -/
theorem State.windowsOf_congr {s t : State} {j : Fin 64} (defn : (t.job j).defn = (s.job j).defn)
    (active : (t.job j).rt.active = (s.job j).rt.active) : t.windowsOf j = s.windowsOf j := by
  unfold State.windowsOf
  rw [defn, active]

/-- Where no job comes into use but perhaps one whose windows the claim leaves clear, and no claim is taken, R59 stays. -/
theorem State.claimClear_of_use {s t : State} {k : Option (Fin 64)} (h : s.claimClear) (use : UseBut k s t)
    (defn : ∀ j, (t.job j).rt.state.inUse = true → (t.job j).defn = (s.job j).defn) (claim : t.claim = s.claim)
    (hk : ∀ j, k = some j → (t.job j).rt.state.inUse = true → (t.job j).rt.active = (s.job j).rt.active ∧ s.blocked j = false) :
    t.claimClear := by
  intro w hw v hv
  rw [claim] at hw
  obtain ⟨j, huse, hmem⟩ := State.mem_windowsInUse.mp hv
  by_cases hj : some j = k
  · obtain ⟨hactive, hclear⟩ := hk j hj.symm huse
    rw [State.windowsOf_congr (defn j huse) hactive] at hmem
    simp only [State.blocked, hw, List.any_eq_false] at hclear
    rw [Window.overlaps_comm]
    simpa using hclear v hmem
  · obtain ⟨huse', hactive⟩ := use j hj huse
    rw [State.windowsOf_congr (defn j huse) hactive] at hmem
    exact h w hw v (State.mem_windowsInUse.mpr ⟨j, huse', hmem⟩)

theorem State.claimClear_of_none {s : State} (h : s.claim = none) : s.claimClear := by
  intro w hw
  rw [h] at hw; cases hw

theorem PassMove.use {s t : State} {x : Pass} (h : PassMove s x t) : UseBut none s t := by
  cases h with
  | select => exact s.assertSelect_use x
  | leadEnd => exact s.leadDone_use x
  | ready => exact s.afterBusy_use x
  | timeout => exact s.enterLag_use x _
  | byteEnd => exact s.endByte_use x _
  | bits => exact s.bitsArrived_use x _
  | gapEnd => exact s.startShift_use x
  | pulseStays => exact s.waitForStore_use x
  | pulseEnd => exact s.unitSteps_use x
  | lagEnd => exact s.lagDone_use x
  | attempt => exact s.startPass_use x
  | readCur | readNext | readNone | stored => exact s.setEng_use _ _ _
  | storedOwed => exact (s.setEng_use _ _ _).trans ((State.countByte_use _ x).trans (State.afterStore_use _ x))

/-- A swap asked for in use leaves the active window (R63). -/
theorem Runtime.askSwap_use {r : Runtime} (h : r.askSwap.state.inUse = true) :
    r.state.inUse = true ∧ r.askSwap.active = r.active := by
  unfold Runtime.askSwap at *
  split_ifs at * <;> simp_all

/-- Of the engines' moves a dispatch alone brings a job into use, an unblocked one with its active window kept. -/
theorem EngineMove.use {b : Bool} {s t : State} (h : EngineMove b s t) : UseBut none s t ∨
    ∃ j, b = true ∧ UseBut (some j) s t ∧ s.blocked j = false ∧
      ((t.job j).rt.state.inUse = true → (t.job j).rt.active = (s.job j).rt.active) := by
  cases h with
  | dispatch c k j _ _ hclear _ may =>
    exact .inr ⟨j, may, (s.dispatch_use c j).1, hclear, (s.dispatch_use c j).2⟩
  | trigger j => exact .inl (s.trigger_use j)
  | flags => exact .inl (s.setArb_use _ _ _)
  | dueAll => exact .inl (.of_jobs rfl)
  | disarm j => exact .inl (s.setRt_use_none j _ (by simp [JobState.inUse]))
  | clear j => exact .inl (s.setRt_use_none j _ (by simp [JobState.inUse]))
  | swap j => exact .inl (s.setRt_use_none j _ Runtime.askSwap_use)
  | cancelRunning j => exact .inl (s.cancelRunning_use j)
  | cancelSuspended j => exact .inl (s.cancelSuspended_use j)
  | resume c j => exact .inl (s.resume_use c j)
  | pass _ _ _ h => exact .inl h.use

/-- A job replaced by one that is not in use. -/
theorem State.claimClear_setJob {s : State} {j : Fin 64} {x : Job} (h : s.claimClear) (hx : x.rt.state.inUse = false) :
    (s.setJob j x).claimClear := by
  refine State.claimClear_of_use (k := none) h ?_ ?_ rfl (by simp)
  · intro k _ huse
    rw [State.job_setJob] at huse ⊢
    split at huse
    · rw [hx] at huse; cases huse
    · simp_all
  · intro k huse
    rw [State.job_setJob] at huse ⊢
    split at huse
    · rw [hx] at huse; cases huse
    · simp_all

theorem kept_claimClear : Kept State.claimClear where
  move {i s t} h hs := by
    cases h with
    | link _ h =>
      exact State.claimClear_of_use (k := none) hs h.side.use (fun j _ => by simp [State.job, h.side.jobs])
        h.side.claim (by simp)
    | engine _ h =>
      rcases h.use with use | ⟨j, -, use, hclear, hactive⟩
      · exact State.claimClear_of_use hs use (fun j _ => h.side.defn j) h.side.claim (by simp)
      · exact State.claimClear_of_use hs use (fun j _ => h.side.defn j) h.side.claim fun k hk huse => by
          cases hk; exact ⟨hactive huse, hclear⟩
    | abort c =>
      exact State.claimClear_of_use (k := none) hs (s.abortChannel_use c) (fun j _ => (s.abortChannel_side c).defn j)
        (s.abortChannel_side c).claim (by simp)
    | reset => exact State.claimClear_of_none (State.resetRequest_claim _)
    | powerOn => exact State.claimClear_of_none (State.powerOn_claim _)
    | unclaim p _ _ _ r => exact State.claimClear_of_none (State.reply_side _ p r .ok []).claim
    | claim p a data _ _ hclear =>
      intro w hw v hv
      cases hw
      rw [Window.overlaps_comm]
      exact List.any_eq_false.mp hclear v hv |> Bool.eq_false_iff.mpr
    | define j d => exact State.claimClear_setJob hs rfl
    | release j => exact State.claimClear_setJob hs rfl
    | _ => exact hs
  pins _ _ _ _ _ _ hs := hs
  clear _ _ hs := hs
  countDown hs := hs

end Sys2Proof.Machine

namespace Sys2Proof
open Sys2Proof.Machine

/-- Settles O5: of the moves, writes and the stores of engines that stop alone touch memory, and they put one byte each. -/
theorem stepKeepsMemoryCanonical : Obligations.StepKeepsMemoryCanonical := fun _ _ => kept_memory.step

/-- Settles O6: records reach and leave the queue by hand-overs and departures alone. -/
theorem stepKeepsNoticeLimits : Obligations.StepKeepsNoticeLimits := fun _ _ => kept_notices.step

/-- Settles O7: a dispatch takes an unblocked job and a claim a range clear of the windows in use; the interpreter holds the
claim from MEM_WRITE to its end. -/
theorem stepKeepsWriteClaim : Obligations.StepKeepsWriteClaim :=
  ⟨fun _ _ => kept_claimClear.step, fun _ _ => kept_claimMatches.step⟩

end Sys2Proof
end

section
/-! SUPPORT. Request places, interpreter and answer queue: each move at the link keeps them in agreement (R21, R26, R32). -/
namespace Sys2Proof.Machine

/-- LinkCoherent reads of the interpreter only which place it serves or waits for, and of the transmitter only which answer it
sends. -/
theorem State.LinkCoherent.of_parts {s t : State} (h : s.LinkCoherent) (places : t.link.places = s.link.places)
    (waiting : t.link.waiting = s.link.waiting) (refusal : t.link.refusal.isSome = s.link.refusal.isSome)
    (answers : t.link.answers = s.link.answers) (sending : ∀ r, t.link.sending = some r → s.link.answers.head? = some r)
    (serves : ∀ p, (∃ w, t.interp = .executing p w) ↔ ∃ w, s.interp = .executing p w)
    (idle : t.interp = .idle → s.interp = .idle) (resetWait : ∀ p, t.interp = .resetWait p → s.interp = .resetWait p) :
    t.LinkCoherent := by
  have place : ∀ p, t.place p = s.place p := fun p => by simp [State.place, places]
  exact {
    request := fun p => by rw [place, waiting, serves]; exact h.request p
    once := fun p w hw => by
      obtain ⟨w', hw'⟩ := (serves p).mp ⟨w, hw⟩
      rw [waiting]; exact h.once p w' hw'
    waiting := by rw [waiting]; exact h.waiting
    idle := fun hi => by rw [waiting]; exact h.idle (idle hi)
    answer := fun p => by rw [place, answers]; exact h.answer p
    refusal := by rw [answers, refusal]; exact h.refusal
    answers := by rw [answers]; exact h.answers
    sending := fun r hr => by rw [answers]; exact sending r hr
    resetWait := fun p hp => by rw [place]; exact h.resetWait p (resetWait p hp) }

/-- The interpreter and the link controller are as they were. -/
theorem State.LinkCoherent.of_eq {s t : State} (h : s.LinkCoherent) (link : t.link = s.link) (interp : t.interp = s.interp) :
    t.LinkCoherent :=
  h.of_parts (by rw [link]) (by rw [link]) (by rw [link]) (by rw [link]) (by rw [link]; exact h.sending)
    (by rw [interp]; simp) (by rw [interp]; exact id) (by rw [interp]; simp)

/-- The interpreter goes on with the request it is executing. -/
theorem State.LinkCoherent.work {s t : State} {p : Fin 4} {w w' : Work} (h : s.LinkCoherent) (link : t.link = s.link)
    (hs : s.interp = .executing p w) (ht : t.interp = .executing p w') : t.LinkCoherent :=
  h.of_parts (by rw [link]) (by rw [link]) (by rw [link]) (by rw [link]) (by rw [link]; exact h.sending)
    (by simp [hs, ht]) (by simp [ht]) (by simp [ht])

/-- The frame in progress changes, and is still that of the oldest answer or of a notice. -/
theorem State.LinkCoherent.setTx {s : State} (h : s.LinkCoherent) (tx : Option TxFrame) (clocks : Nat)
    (sending : ∀ r, ({ s.link with tx := tx, txClocks := clocks } : Link).sending = some r → s.link.answers.head? = some r) :
    State.LinkCoherent { s with link := { s.link with tx := tx, txClocks := clocks } } :=
  h.of_parts rfl rfl rfl rfl sending (fun _ => Iff.rfl) id (fun _ => id)

/-- The link controller at power-on. -/
theorem State.linkCoherent_powerOn {s : State} (link : s.link = .powerOn) (interp : s.interp = .idle) : s.LinkCoherent := by
  have place : ∀ p, s.place p = .empty := fun p => by simp [State.place, link, Link.powerOn]
  constructor <;> simp [place, link, interp, Link.powerOn, Place.hasRequest, Place.hasAnswer, Link.sending]

theorem State.LinkCoherent.refused {s : State} (h : s.LinkCoherent) (a : Answer) (free : s.link.refusal = none) :
    (State.enqueueAnswer { s with link := { s.link with refusal := some a } } .refusal).LinkCoherent := by
  have absent : AnswerRef.refusal ∉ s.link.answers := fun hr => by simpa [free] using h.refusal.mp hr
  exact {
    request := h.request
    once := h.once
    waiting := h.waiting
    idle := h.idle
    answer := fun p => (by simp [State.enqueueAnswer] : _ ↔ AnswerRef.place p ∈ s.link.answers).trans (h.answer p)
    refusal := by simp [State.enqueueAnswer]
    answers := by simpa [State.enqueueAnswer, List.nodup_append] using ⟨h.answers, fun x hx hr => absent (hr ▸ hx)⟩
    sending := fun r hr => by
      have first := h.sending r hr
      simp [State.enqueueAnswer, List.head?_append, first]
    resetWait := h.resetWait }

/-- A place that holds no answer has none in the queue. -/
theorem State.LinkCoherent.not_mem_answers {s : State} (h : s.LinkCoherent) {p : Fin 4} (hp : (s.place p).hasAnswer = false) :
    .place p ∉ s.link.answers := fun hmem => by
  rw [(h.answer p).mp hmem] at hp; cases hp

/-- A place that holds no request is neither waiting nor served. -/
theorem State.LinkCoherent.not_served {s : State} (h : s.LinkCoherent) {p : Fin 4} (hp : (s.place p).hasRequest = false) :
    p ∉ s.link.waiting ∧ ∀ w, s.interp ≠ .executing p w := by
  have free : ¬(p ∈ s.link.waiting ∨ ∃ w, s.interp = .executing p w) := fun hs => by
    rw [(h.request p).mpr hs] at hp; cases hp
  exact ⟨fun hw => free (.inl hw), fun w hw => free (.inr ⟨w, hw⟩)⟩

/-- A place reads as it was set, and the other places as they were. -/
theorem State.place_of_set {s t : State} {p : Fin 4} {x : Place} (h : t.link.places = s.link.places.set p.1 x p.2)
    (q : Fin 4) : t.place q = if p = q then x else s.place q := by
  rw [← State.place_setPlace]; simp [State.place, h, State.setPlace]

/-- An answer takes the place of nothing or of a request that is served no longer, and joins the queue. -/
theorem State.LinkCoherent.queued {s t : State} {p : Fin 4} {x : Place} (h : s.LinkCoherent)
    (places : t.link.places = s.link.places.set p.1 x p.2) (answers : t.link.answers = s.link.answers ++ [.place p])
    (refusal : t.link.refusal = s.link.refusal) (tx : t.link.tx = s.link.tx)
    (hx : x.hasAnswer = true) (new : (s.place p).hasAnswer = false)
    (served : ∀ q, (q ∈ t.link.waiting ∨ ∃ w, t.interp = .executing q w) ↔
      q ≠ p ∧ (q ∈ s.link.waiting ∨ ∃ w, s.interp = .executing q w))
    (once : ∀ q w, t.interp = .executing q w → q ∉ t.link.waiting) (waiting : t.link.waiting.Nodup)
    (idle : t.interp = .idle → t.link.waiting = [])
    (resetWait : ∀ q, t.interp = .resetWait q → q = p ∨ s.interp = .resetWait q) : t.LinkCoherent := by
  have place := State.place_of_set places
  have noRequest : x.hasRequest = false := by cases x <;> simp_all [Place.hasAnswer, Place.hasRequest]
  have absent := h.not_mem_answers new
  exact {
    request := fun q => by
      rw [served, ← h.request, place]
      by_cases hq : q = p
      · subst hq; simp [noRequest]
      · simp [hq, Ne.symm hq]
    once := once
    waiting := waiting
    idle := idle
    answer := fun q => by
      rw [answers, place, List.mem_append, h.answer]
      by_cases hq : q = p
      · subst hq; simp [hx]
      · simp [hq, Ne.symm hq]
    refusal := by rw [answers, refusal, ← h.refusal]; simp
    answers := by
      rw [answers, List.nodup_append]
      exact ⟨h.answers, by simp, fun a ha b hb hab => absent (by simp_all)⟩
    sending := fun r hr => by
      have first := h.sending r (by simpa [Link.sending, tx] using hr)
      simp [answers, List.head?_append, first]
    resetWait := fun q hq => by
      rw [place]
      split
      · exact hx
      · rcases resetWait q hq with rfl | hw
        · contradiction
        · exact h.resetWait q hw }

theorem State.LinkCoherent.replayed {s : State} (h : s.LinkCoherent) (p : Fin 4) (a : Answer) (free : s.place p = .empty) :
    ((s.setPlace p (.replayed a)).enqueueAnswer (.place p)).LinkCoherent := by
  obtain ⟨notWaiting, notServed⟩ := h.not_served (p := p) (by rw [free]; rfl)
  refine h.queued (p := p) (x := .replayed a) rfl rfl rfl rfl rfl (by rw [free]; rfl) (fun q => ?_) h.once h.waiting h.idle
    (fun q hq => .inr hq)
  refine ⟨fun hq => ⟨?_, hq⟩, fun hq => hq.2⟩
  rintro rfl
  rcases hq with hq | ⟨w, hw⟩
  · exact notWaiting hq
  · exact notServed w hw

/-- A request takes an empty place, and waits or is served. -/
theorem State.LinkCoherent.requested {s t : State} {p : Fin 4} {r : Request} (h : s.LinkCoherent)
    (places : t.link.places = s.link.places.set p.1 (.request r) p.2) (answers : t.link.answers = s.link.answers)
    (refusal : t.link.refusal = s.link.refusal) (tx : t.link.tx = s.link.tx) (free : s.place p = .empty)
    (served : ∀ q, (q ∈ t.link.waiting ∨ ∃ w, t.interp = .executing q w) ↔
      q = p ∨ q ∈ s.link.waiting ∨ ∃ w, s.interp = .executing q w)
    (once : ∀ q w, t.interp = .executing q w → q ∉ t.link.waiting) (waiting : t.link.waiting.Nodup)
    (idle : t.interp = .idle → t.link.waiting = []) (resetWait : ∀ q, t.interp = .resetWait q → s.interp = .resetWait q) :
    t.LinkCoherent := by
  have place := State.place_of_set places
  exact {
    request := fun q => by
      rw [served, ← h.request, place]
      by_cases hq : q = p
      · subst hq; simp [Place.hasRequest]
      · simp [hq, Ne.symm hq]
    once := once
    waiting := waiting
    idle := idle
    answer := fun q => by
      rw [answers, place, h.answer]
      by_cases hq : q = p
      · subst hq; simp [Place.hasAnswer, free]
      · simp [Ne.symm hq]
    refusal := by rw [answers, refusal]; exact h.refusal
    answers := by rw [answers]; exact h.answers
    sending := fun r hr => by rw [answers]; exact h.sending r (by simpa [Link.sending, tx] using hr)
    resetWait := fun q hq => by
      have hold := h.resetWait q (resetWait q hq)
      rw [place]
      split
      · subst q; rw [free] at hold; cases hold
      · exact hold }

theorem State.LinkCoherent.accepted {s : State} (h : s.LinkCoherent) (p : Fin 4) (tag typ : Byte) (payload : List Byte)
    (crc : Half) (free : s.place p = .empty) : (s.accept p tag typ payload crc).LinkCoherent := by
  obtain ⟨notWaiting, notServed⟩ := h.not_served (p := p) (by rw [free]; rfl)
  unfold State.accept
  dsimp only
  split <;> rename_i hi <;> replace hi : s.interp = _ := hi
  · have empty := h.idle hi
    refine h.requested rfl rfl rfl rfl free (fun q => ?_) (fun q w hq => ?_) h.waiting (by simp) (by simp)
    · simp [State.setPlace, empty, hi, eq_comm]
    · simp [State.setPlace, empty]
  all_goals
    refine h.requested rfl rfl rfl rfl free (fun q => ?_) (fun q w hq => ?_) ?_ (by simp [State.setPlace, hi]) (by simp [State.setPlace])
    · simp [State.setPlace, hi, or_comm, or_left_comm]
    · have other : q ≠ p := fun hqp => notServed w (hqp ▸ hq)
      simpa [State.setPlace, other] using h.once q w hq
    · simpa [State.setPlace, List.nodup_append] using ⟨h.waiting, fun q hq hqp => notWaiting (hqp ▸ hq)⟩

/-- The request served is answered: its place holds the answer, and the interpreter has taken the earliest waiting request. -/
theorem State.LinkCoherent.replied {s : State} {p : Fin 4} {w : Work} {r : Request} (h : s.LinkCoherent) (res : Result)
    (data : List Byte) (hi : s.interp = .executing p w) (held : s.place p = .request r) :
    (s.reply p r res data).LinkCoherent := by
  rw [State.reply_eq]
  have notWaiting := h.once p w hi
  have nodup := h.waiting
  refine h.queued (p := p) (x := .answered r (r.answer res data)) rfl rfl rfl rfl rfl (by rw [held]; rfl)
    (fun q => ?_) (fun q w' hq => ?_) ?_ (fun hq => ?_) (fun q hq => ?_)
  all_goals
    simp only [State.answered, Link.answered] at *
    cases hwaiting : s.link.waiting <;> simp_all
  · grind
  · grind

theorem State.LinkCoherent.awaited {s : State} {p : Fin 4} {r : Request} (h : s.LinkCoherent)
    (hi : s.interp = .executing p .fresh) (held : s.place p = .request r) :
    ((s.placeAnswer p r .ok []).setInterp (.resetWait p)).LinkCoherent := by
  have notWaiting := h.once p .fresh hi
  have served : ∀ q, (q ∈ s.link.waiting ∨ ∃ w, Interp.resetWait p = .executing q w) ↔
      q ≠ p ∧ (q ∈ s.link.waiting ∨ ∃ w, s.interp = .executing q w) := by
    intro q
    by_cases hq : q = p
    · subst hq; simp [notWaiting]
    · simp [hi, hq, Ne.symm hq]
  exact h.queued (p := p) (x := .answered r (r.answer .ok [])) rfl rfl rfl rfl rfl (by rw [held]; rfl)
    served (by simp) h.waiting (by simp) (fun q hq => .inl (by simpa using hq.symm))

/-- The frame of the oldest answer has been sent: the answer leaves the queue and its place is free. -/
theorem State.LinkCoherent.freed {s : State} {r : AnswerRef} (h : s.LinkCoherent) (hr : s.link.sending = some r)
    (stays : ∀ p, r = .place p → s.interp ≠ .resetWait p) :
    (State.freeAnswer { s with link := { s.link with tx := none, txClocks := 0 } } r).LinkCoherent := by
  have first : r ∈ s.link.answers := List.mem_of_head? (h.sending r hr)
  have gone : ∀ q, q ∈ s.link.answers.erase r ↔ q ≠ r ∧ q ∈ s.link.answers := fun q => h.answers.mem_erase_iff
  cases r with
  | refusal =>
    exact {
      request := h.request
      once := h.once
      waiting := h.waiting
      idle := h.idle
      answer := fun p => (gone (.place p)).trans ((by simp : _ ↔ AnswerRef.place p ∈ s.link.answers).trans (h.answer p))
      refusal := by simp [State.freeAnswer, gone]
      answers := h.answers.erase _
      sending := by simp [State.freeAnswer, Link.sending]
      resetWait := h.resetWait }
  | place p =>
    have held : (s.place p).hasAnswer = true := (h.answer p).mp first
    have place : ∀ q, (State.freeAnswer { s with link := { s.link with tx := none, txClocks := 0 } } (.place p)).place q =
        if p = q then .empty else s.place q := State.place_of_set rfl
    exact {
      request := fun q => by
        rw [place]
        split
        · subst q
          have noRequest : (s.place p).hasRequest = false := by
            cases hp : s.place p <;> simp_all [Place.hasAnswer, Place.hasRequest]
          obtain ⟨notWaiting, notServed⟩ := h.not_served noRequest
          refine ⟨fun hq => (by cases hq), fun hq => ?_⟩
          rcases hq with hq | ⟨w, hw⟩
          · exact absurd hq notWaiting
          · exact absurd hw (notServed w)
        · exact h.request q
      once := h.once
      waiting := h.waiting
      idle := h.idle
      answer := fun q => by
        rw [place]
        refine (gone (.place q)).trans ?_
        by_cases hq : p = q
        · subst hq; simp [Place.hasAnswer]
        · simpa [hq, Ne.symm hq] using h.answer q
      refusal := by
        refine (gone .refusal).trans ?_
        exact (by simp : _ ↔ AnswerRef.refusal ∈ s.link.answers).trans h.refusal
      answers := h.answers.erase _
      sending := by simp [State.freeAnswer, State.setPlace, Link.sending]
      resetWait := fun q hq => by
        have other : p ≠ q := fun hpq => stays q (by rw [hpq]) hq
        rw [place, if_neg other]
        exact h.resetWait q hq }

/-- The frame that a boundary starts is the oldest answer's or a notice's. -/
theorem State.LinkCoherent.frameBoundary {s : State} (h : s.LinkCoherent) : s.frameBoundary.LinkCoherent := by
  unfold State.frameBoundary
  split
  · exact h
  · rename_i r l _ hanswers
    split
    · exact h.setTx _ _ (fun q hq => by simpa [Link.sending, hanswers] using hq)
    · exact h
  · split
    · exact (h.setTx _ _ (fun q hq => by simp [Link.sending] at hq)).of_eq (t := (s.startFrame _ _).setNotices _) rfl rfl
    · exact h

theorem LinkMove.linkCoherent {s t : State} (h : LinkMove s t) (hs : s.LinkCoherent) : t.LinkCoherent := by
  cases h with
  | receive =>
    exact hs.of_parts rfl rfl rfl rfl hs.sending (fun _ => Iff.rfl) id (fun _ => id)
  | refuse a free => exact hs.refused a free
  | accept p tag typ payload crc free => exact hs.accepted p tag typ payload crc free
  | replay p a free => exact hs.replayed p a free
  | boundary => exact hs.frameBoundary
  | byteSent f sent clocks tx =>
    obtain ⟨source, bytes, n⟩ := f
    exact hs.setTx _ _ fun r hr => hs.sending r (by cases source <;> simp_all [Link.sending])
  | noticeSent => exact hs.setTx _ _ fun r hr => by simp [Link.sending] at hr
  | answerSent r sending stays => exact hs.freed sending stays
  | reply p w r res data hi _ held => exact hs.replied res data hi held
  | awaitReset p r hi held => exact hs.awaited hi held

theorem kept_linkCoherent : Kept State.LinkCoherent where
  move {i s t} h hs := by
    cases h with
    | link _ h => exact h.linkCoherent hs
    | engine _ h => exact hs.of_eq h.side.link h.side.interp
    | claim p a data hi => exact hs.work rfl hi rfl
    | unclaim p a data n r hi held =>
      have claimed : State.LinkCoherent { s with claim := none } := hs.of_eq rfl rfl
      exact claimed.replied .ok [] hi held
    | beginRead p a n hi => exact hs.work rfl hi rfl
    | wrote p a data n hi => exact hs.work rfl hi rfl
    | read p a n got b hi => exact hs.work rfl hi rfl
    | startUp =>
      exact hs.of_parts rfl rfl rfl rfl hs.sending (fun _ => Iff.rfl) id (fun _ => id)
    | abort c => exact hs.of_eq (s.abortChannel_side c).link (s.abortChannel_side c).interp
    | reset u => exact State.linkCoherent_powerOn (State.resetRequest_link u) (State.resetRequest_interp u)
    | powerOn => exact State.linkCoherent_powerOn (State.powerOn_link s) (State.powerOn_interp s)
    | _ => exact hs.of_eq rfl rfl
  pins _ _ _ _ _ _ hs := hs.of_eq rfl rfl
  clear _ _ hs := hs.of_eq rfl rfl
  countDown hs := hs.of_parts rfl rfl rfl rfl hs.sending (fun _ => Iff.rfl) id (fun _ => id)

end Sys2Proof.Machine

namespace Sys2Proof
open Sys2Proof.Machine

/-- Settles O10: a request enters an empty place, an answer takes the place of its request and joins the queue once, and a place
is freed as the frame of the oldest answer ends. -/
theorem stepKeepsLinkCoherent : Obligations.StepKeepsLinkCoherent := fun _ _ => kept_linkCoherent.step

end Sys2Proof
end

section
/-! SUPPORT. Where an event can lead a pass: the engine stays in the pass, or its ending is handed over. One lemma per operation
of an engine says so, with what the pass keeps: K stands for "jobs, engines and slots agree", L for "the pass is lawful". -/
namespace Sys2Proof.Machine

/-- A runtime part in which a pass has counted: the progress and the last poll byte may differ, nothing else. -/
def Runtime.Counted (r r' : Runtime) : Prop := r' = { r with progress := r'.progress, lastPoll := r'.lastPoll }

theorem Runtime.Counted.refl (r : Runtime) : r.Counted r := rfl

theorem Runtime.Counted.trans {r r' r'' : Runtime} (h : r.Counted r') (h' : r'.Counted r'') : r.Counted r'' := by
  unfold Runtime.Counted at *
  rw [h', h]

theorem Runtime.Counted.state {r r' : Runtime} (h : r.Counted r') : r'.state = r.state := by rw [h]
theorem Runtime.Counted.cancel {r r' : Runtime} (h : r.Counted r') : r'.cancel = r.cancel := by rw [h]

/-- An engine holds the job of pass x; a suspension it has recorded is that of a NORMAL job. -/
structure Engine.Holds (K : Prop) (x : Pass) (e : Engine) : Prop where
  job : e.job = some x.job
  normal : K → e.lag = some .suspension → x.defn.cls = .normal

theorem Engine.Holds.of_eq {K : Prop} {x : Pass} {e e' : Engine} (h : e.Holds K x) (job : e'.job = e.job)
    (lag : e'.lag = e.lag) : e'.Holds K x := ⟨job.trans h.job, fun hK hl => h.normal hK (lag ▸ hl)⟩

/-- An engine in pass x. -/
structure Engine.InPass (K L : Prop) (x : Pass) (e : Engine) (r : Runtime) : Prop where
  job : e.job = some x.job
  busy : K → e.state ≠ .idle
  suspending : K → e.lag = some .suspension → x.defn.cls = .normal
  lawful : L → e.Lawful x.defn r

/-- Where an event leads pass x: the engine stays in the pass, or the ending with reason l is handed over. -/
inductive PassOut (K L : Prop) (s : State) (x : Pass) : State → Prop
  | stays (e : Engine) (r : Runtime) (counted : (s.job x.job).rt.Counted r) (h : e.InPass K L x r) :
    PassOut K L s x ((s.setEng x.chan e).setRt x.job r)
  | ends (e : Engine) (r : Runtime) (l : LagReason) (counted : (s.job x.job).rt.Counted r)
    (normal : K → l = .suspension → x.defn.cls = .normal) (progress : L → r.progress ≤ x.defn.bound)
    (left : L → l = .suspension → r.progress < x.defn.bound) :
    PassOut K L s x (((s.setEng x.chan e).setRt x.job r).finishPass x l)

/-- The runtime part put back as it was. -/
theorem State.setRt_self (s : State) (j : Fin 64) : s.setRt j (s.job j).rt = s := by
  show ({ s with jobs := s.jobs.set j.1 s.jobs[j] j.2 } : State) = s
  simp

theorem State.setEng_self (s : State) (c : Fin 4) : s.setEng c (s.eng c) = s := by
  simp [State.setEng, State.eng]

/-- What an engine in a pass has at all times, between its states: a read waits only behind the byte that goes out (R143, R146);
a store waits exactly while the engine owes a byte, of a kind that stores (R148); the counts are in range (R93). -/
structure Engine.Sound (e : Engine) (d : JobDef) (r : Runtime) : Prop where
  attempts : d.kind = .poll → r.progress < d.retryLimit.toNat
  commands : d.kind = .poll → e.attemptPos ≤ d.winA.len
  bytes : d.kind ≠ .poll → e.bytesShifted r ≤ d.winA.len
  read : ∀ k, e.nxt = .waiting k → d.kind ≠ .receive ∧ k < d.winA.len
  readAsked : e.asks.count .read = e.nxt.reads
  cur : ∀ k, e.cur ≠ .waiting k
  oneStore : e.asks.countP (fun a => decide (a ≠ .read)) ≤ 1
  stores : e.storeWaiting ≠ none → d.kind.stores = true
  owed : e.owed = true ↔ e.storeWaiting ≠ none

theorem OutByte.reads_eq_zero {o : OutByte} (h : ∀ k, o ≠ .waiting k) : o.reads = 0 := by
  cases o with
  | waiting k => exact absurd rfl (h k)
  | empty | held _ => rfl

namespace Engine.Sound

variable {e : Engine} {d : JobDef} {r : Runtime}

/-- The progress keeps R93. -/
theorem progress_le (h : e.Sound d r) : r.progress ≤ d.bound := by
  by_cases hd : d.kind = .poll
  · rw [JobDef.bound_poll hd]; exact (h.attempts hd).le
  · rw [JobDef.bound_of_ne_poll hd]
    have := h.bytes hd
    simp only [Engine.bytesShifted] at this
    omega

theorem noStore (h : e.Sound d r) (paid : e.owed = false) : e.storeWaiting = none := by
  by_contra hs
  rw [h.owed.mpr hs] at paid; cases paid

/-- POLL stores nothing, so that its engine owes nothing. -/
theorem not_poll (h : e.Sound d r) (owes : e.owed = true) : d.kind ≠ .poll := fun hd => by
  have := h.stores (h.owed.mp owes)
  rw [hd] at this; cases this

theorem shifted_of_paid (paid : e.owed = false) : e.bytesShifted r = r.progress := by simp [Engine.bytesShifted, paid]

end Engine.Sound

/-- Where no byte waits for its own read, a lawful engine that owes what is stored late is sound. -/
theorem Engine.Lawful.sound {e : Engine} {d : JobDef} {r : Runtime} (h : e.Lawful d r) (cur : ∀ k, e.cur ≠ .waiting k)
    (owed : e.storeWaiting ≠ none → e.owed = true) : e.Sound d r where
  attempts := h.attempts
  commands := h.commands
  bytes := h.bytes
  read k hk := h.read k (.inr hk)
  readAsked := by rw [h.readAsked, OutByte.reads_eq_zero cur, Nat.zero_add]
  cur := cur
  oneStore := h.oneStore
  stores hs := (h.store hs).1
  owed := ⟨h.owed, owed⟩

/-- Outside SHIFT a lawful engine is sound. -/
theorem Engine.Lawful.sound_of_state {e : Engine} {d : JobDef} {r : Runtime} (h : e.Lawful d r) (hstate : e.state ≠ .shift) :
    e.Sound d r :=
  h.sound (fun k hk => hstate (h.readInShift k hk).1) fun hs =>
    (h.store hs).2.2.resolve_right fun hshift => hstate hshift.1

/-- Outside SHIFT, GAP and UNIT_END a lawful engine owes nothing. -/
theorem Engine.Lawful.paid {e : Engine} {d : JobDef} {r : Runtime} (h : e.Lawful d r) (hshift : e.state ≠ .shift)
    (hgap : e.state ≠ .gap) (hunit : e.state ≠ .unitEnd) : e.owed = false := by
  by_contra howed
  have := (h.store (h.owed (by simpa using howed))).2.1
  simp_all

theorem Engine.Lawful.no_lag {e : Engine} {d : JobDef} {r : Runtime} (h : e.Lawful d r) (hstate : e.state ≠ .lag) :
    e.lag = none := by
  by_contra hlag
  exact hstate (h.inLag.mpr hlag)

namespace PassOut

variable {K L : Prop} {s t : State} {x : Pass}

/-- The engine stays in the pass, and nothing has been counted. -/
theorem engine {e : Engine} (h : e.InPass K L x (s.job x.job).rt) : PassOut K L s x (s.setEng x.chan e) := by
  have out := stays (s := s) e (s.job x.job).rt (.refl _) h
  rwa [show (s.job x.job).rt = ((s.setEng x.chan e).job x.job).rt from rfl, State.setRt_self] at out

theorem finish {l : LagReason} (normal : K → l = .suspension → x.defn.cls = .normal)
    (progress : L → (s.job x.job).rt.progress ≤ x.defn.bound)
    (left : L → l = .suspension → (s.job x.job).rt.progress < x.defn.bound) : PassOut K L s x (s.finishPass x l) := by
  have out := ends (s := s) (s.eng x.chan) (s.job x.job).rt l (.refl _) normal progress left
  rwa [State.setEng_self, State.setRt_self] at out

/-- What an event does after the engine has been set is what it does. -/
theorem of_setEng {e : Engine} (h : PassOut K L (s.setEng x.chan e) x t) : PassOut K L s x t := by
  cases h with
  | stays e' r counted h =>
    rw [State.setEng_setEng]
    exact stays e' r counted h
  | ends e' r l counted normal progress left =>
    rw [State.setEng_setEng]
    exact ends e' r l counted normal progress left

/-- What an event does after it has counted is what it does. -/
theorem of_setRt {r : Runtime} (hr : (s.job x.job).rt.Counted r) (h : PassOut K L (s.setRt x.job r) x t) :
    PassOut K L s x t := by
  have swap : ∀ (e : Engine) (r' : Runtime), ((s.setRt x.job r).setEng x.chan e).setRt x.job r' =
      (s.setEng x.chan e).setRt x.job r' := fun e r' => by
    rw [show (s.setRt x.job r).setEng x.chan e = (s.setEng x.chan e).setRt x.job r from rfl, State.setRt_setRt]
  cases h with
  | stays e r' counted h =>
    rw [swap]
    exact stays e r' (hr.trans (by simpa using counted)) h
  | ends e r' l counted normal progress left =>
    rw [swap]
    exact ends e r' l (hr.trans (by simpa using counted)) normal progress left

/-! ### LAG -/

/-- The engine counts the lag of an ending (R154). -/
theorem inLag {l : LagReason} (holds : (s.eng x.chan).Holds K x) (suspends : l = .suspension → x.defn.cls = .normal)
    (sound : L → (s.eng x.chan).Sound x.defn (s.job x.job).rt) (paid : L → (s.eng x.chan).owed = false)
    (reason : L → l.lawful (s.eng x.chan) x.defn (s.job x.job).rt) :
    ((s.eng x.chan).inLag x.prof l).InPass K L x (s.job x.job).rt := by
  refine ⟨holds.job, fun _ => by simp [Engine.inLag], fun _ hl => suspends (by simpa [Engine.inLag] using hl), fun hL => ?_⟩
  have h := sound hL
  have hstore := h.noStore (paid hL)
  exact {
    attempts := h.attempts
    commands := h.commands
    bytes := h.bytes
    byteLeft := by simp [Engine.inLag]
    reply := by simp [Engine.inLag]
    pollWait := by simp [Engine.inLag]
    read := fun k hk => h.read k (hk.resolve_left (h.cur k))
    readAsked := by
      show (s.eng x.chan).asks.count .read = (s.eng x.chan).cur.reads + (s.eng x.chan).nxt.reads
      rw [OutByte.reads_eq_zero h.cur, Nat.zero_add, h.readAsked]
    readInShift := fun k hk => absurd hk (h.cur k)
    store := fun hs => absurd hstore hs
    oneStore := h.oneStore
    owed := h.owed.mp
    ended := by simp [Engine.inLag]
    endedGap := by simp [Engine.inLag]
    inLag := by simp [Engine.inLag]
    reason := fun l' hl' => by
      have : l = l' := by simpa [Engine.inLag] using hl'
      subst this
      have := reason hL
      cases l <;> exact this }

theorem enterLag {l : LagReason} (holds : (s.eng x.chan).Holds K x) (suspends : l = .suspension → x.defn.cls = .normal)
    (sound : L → (s.eng x.chan).Sound x.defn (s.job x.job).rt) (paid : L → (s.eng x.chan).owed = false)
    (reason : L → l.lawful (s.eng x.chan) x.defn (s.job x.job).rt) : PassOut K L s x (s.enterLag x l) := by
  unfold State.enterLag
  split
  · refine finish (fun _ => suspends) (fun hL => (sound hL).progress_le) fun hL hl => ?_
    subst hl
    obtain ⟨hkind, hleft⟩ := reason hL
    rwa [JobDef.bound_of_ne_poll hkind]
  · exact engine (inLag holds suspends sound paid reason)

end PassOut

/-! ### SHIFT, GAP and the wait for a store -/

/-- A lawful engine from a sound one, in a state in which it may owe a byte. -/
theorem Engine.Sound.lawful {e : Engine} {d : JobDef} {r : Runtime} (h : e.Sound d r)
    (hstate : e.state = .shift ∨ e.state = .gap ∨ e.state = .unitEnd) (hlag : e.lag = none)
    (byteLeft : d.kind ≠ .poll → (e.state = .shift ∨ e.state = .gap) → e.ended = false → e.bytesShifted r < d.winA.len)
    (reply : e.state = .shift → (e.replying = true ↔ d.kind = .poll ∧ e.attemptPos = d.winA.len))
    (ended : e.ended = true → e.owed = true) (endedGap : e.ended = true → e.state = .gap → r.cancel = true) :
    e.Lawful d r where
  attempts := h.attempts
  commands := h.commands
  bytes := h.bytes
  byteLeft hd hs := byteLeft hd (by rcases hstate with hs' | hs' | hs' <;> simp_all)
  reply := reply
  pollWait hs := by rcases hstate with hs' | hs' | hs' <;> simp_all
  read k hk := h.read k (hk.resolve_left (h.cur k))
  readAsked := by rw [OutByte.reads_eq_zero h.cur, Nat.zero_add, h.readAsked]
  readInShift k hk := absurd hk (h.cur k)
  store hs := ⟨h.stores hs, hstate, .inl (h.owed.mpr hs)⟩
  oneStore := h.oneStore
  owed := h.owed.mp
  ended := ended
  endedGap := endedGap
  inLag := by rcases hstate with hs' | hs' | hs' <;> simp [hs', hlag]
  reason l hl := by rw [hlag] at hl; cases hl

/-- A lawful engine from a sound one that owes nothing, in LEAD, BUSY_WAIT or POLL_WAIT. -/
theorem Engine.Sound.lawful_paid {e : Engine} {d : JobDef} {r : Runtime} (h : e.Sound d r) (paid : e.owed = false)
    (hstate : e.state = .lead ∨ e.state = .busyWait ∨ e.state = .pollWait) (hlag : e.lag = none) (ended : e.ended = false)
    (byteLeft : e.state = .lead → d.kind ≠ .poll → r.progress < d.winA.len)
    (pollWait : e.state = .pollWait → d.kind = .poll) : e.Lawful d r where
  attempts := h.attempts
  commands := h.commands
  bytes := h.bytes
  byteLeft hd hs _ := by
    rw [Engine.Sound.shifted_of_paid paid]
    exact byteLeft (by rcases hstate with hs' | hs' | hs' <;> simp_all) hd
  reply hs := by rcases hstate with hs' | hs' | hs' <;> simp_all
  pollWait := pollWait
  read k hk := h.read k (hk.resolve_left (h.cur k))
  readAsked := by rw [OutByte.reads_eq_zero h.cur, Nat.zero_add, h.readAsked]
  readInShift k hk := absurd hk (h.cur k)
  store hs := absurd (h.noStore paid) hs
  oneStore := h.oneStore
  owed := h.owed.mp
  ended he := by rw [ended] at he; cases he
  endedGap he := by rw [ended] at he; cases he
  inLag := by rcases hstate with hs' | hs' | hs' <;> simp [hs', hlag]
  reason l hl := by rw [hlag] at hl; cases hl

/-- The bytes ended are the command bytes of a POLL attempt, else those shifted. -/
theorem State.bytesEnded_poll {s : State} {x : Pass} (h : x.defn.kind = .poll) :
    s.bytesEnded x = (s.eng x.chan).attemptPos := if_pos h

theorem State.bytesEnded_of_ne_poll {s : State} {x : Pass} (h : x.defn.kind ≠ .poll) :
    s.bytesEnded x = (s.eng x.chan).bytesShifted (s.job x.job).rt := if_neg h

/-- The reads asked for behind those that wait bring no store. -/
theorem Engine.storeWaiting_append_asks {e e' : Engine} {o : OutByte} (h : e'.asks = e.asks ++ o.asks) :
    e'.storeWaiting = e.storeWaiting := by
  unfold Engine.storeWaiting
  rw [h, List.findSome?_append]
  cases o <;> simp [OutByte.asks]

/-- SHIFT of a byte that the pass has left is lawful (R146). -/
theorem Engine.Sound.inShift {e : Engine} {d : JobDef} {r : Runtime} (h : e.Sound d r) (hlag : e.lag = none)
    (left : d.kind ≠ .poll → e.bytesShifted r < d.winA.len) (p : Profile) (pos : Nat) (busy : Bool)
    (hpos : d.kind = .poll → pos = e.attemptPos) : (e.inShift d p pos busy).Lawful d r := by
  have store : (e.inShift d p pos busy).storeWaiting = e.storeWaiting :=
    Engine.storeWaiting_append_asks (o := nextOut d (pos + 1)) rfl
  exact {
    attempts := h.attempts
    commands := h.commands
    bytes := h.bytes
    byteLeft := fun hd _ _ => left hd
    reply := fun _ => by
      simp only [Engine.inShift, Bool.and_eq_true, decide_eq_true_eq]
      exact and_congr_right fun hd => by rw [hpos hd]
    pollWait := by simp [Engine.inShift]
    read := fun k hk => by
      rcases hk with hk | hk
      · exact h.read k hk
      · exact nextOut_waiting (p := pos + 1) hk
    readAsked := by
      show (e.asks ++ (nextOut d (pos + 1)).asks).count .read = e.nxt.reads + (nextOut d (pos + 1)).reads
      rw [List.count_append, h.readAsked, OutByte.asks_count_read]
    readInShift := fun _ _ => ⟨rfl, rfl⟩
    store := fun hs => by
      rw [store] at hs
      exact ⟨h.stores hs, .inl rfl, .inl (h.owed.mpr hs)⟩
    oneStore := by
      show (e.asks ++ (nextOut d (pos + 1)).asks).countP (fun a => decide (a ≠ .read)) ≤ 1
      rw [List.countP_append, OutByte.asks_no_store]
      exact h.oneStore
    owed := fun ho => by rw [store]; exact h.owed.mp ho
    ended := by simp [Engine.inShift]
    endedGap := by simp [Engine.inShift]
    inLag := by simp [Engine.inShift, hlag]
    reason := fun l hl => by
      rw [show (e.inShift d p pos busy).lag = e.lag from rfl, hlag] at hl; cases hl }

/-- What an engine stands before that shifts the next byte of its pass, at once or after a gap. -/
structure Engine.BeforeByte (e : Engine) (d : JobDef) (r : Runtime) : Prop where
  sound : e.Sound d r
  lag : e.lag = none
  left : d.kind ≠ .poll → e.bytesShifted r < d.winA.len

/-- What an engine stands before that has no byte under way: it owes nothing. -/
structure Engine.AtRest (e : Engine) (d : JobDef) (r : Runtime) : Prop where
  sound : e.Sound d r
  lag : e.lag = none
  paid : e.owed = false

namespace PassOut

variable {K L : Prop} {s t : State} {x : Pass}

theorem startShift (holds : (s.eng x.chan).Holds K x)
    (h : L → (s.eng x.chan).BeforeByte x.defn (s.job x.job).rt) : PassOut K L s x (s.startShift x) :=
  engine ⟨holds.job, fun _ => by simp [Engine.inShift], holds.normal,
    fun hL => (h hL).sound.inShift (h hL).lag (h hL).left _ _ _ State.bytesEnded_poll⟩

theorem enterGap (holds : (s.eng x.chan).Holds K x)
    (h : L → (s.eng x.chan).BeforeByte x.defn (s.job x.job).rt) : PassOut K L s x (s.enterGap x) := by
  unfold State.enterGap
  split
  · exact startShift holds h
  · refine engine ⟨holds.job, fun _ => by simp, holds.normal, fun hL => ?_⟩
    obtain ⟨sound, hlag, left⟩ := h hL
    have sound' : Engine.Sound { s.eng x.chan with state := .gap, ended := false, interval := x.prof.gapClocks } x.defn
      (s.job x.job).rt := { sound with }
    exact sound'.lawful (.inr (.inl rfl)) hlag (fun hd _ _ => left hd) (by simp) (by simp) (by simp)

/-- The engine stays in its state for a store that waits, in GAP only to end CANCELLED (R148, R164). -/
theorem waitForStore (holds : (s.eng x.chan).Holds K x)
    (busy : K → (s.eng x.chan).state ≠ .idle) (sound : L → (s.eng x.chan).Sound x.defn (s.job x.job).rt)
    (hlag : L → (s.eng x.chan).lag = none) (owes : L → (s.eng x.chan).owed = true)
    (state : L → (s.eng x.chan).state = .shift ∨ (s.eng x.chan).state = .gap ∨ (s.eng x.chan).state = .unitEnd)
    (reply : L → (s.eng x.chan).state = .shift → (s.eng x.chan).replying = false)
    (cancel : L → (s.eng x.chan).state = .gap → (s.job x.job).rt.cancel = true) : PassOut K L s x (s.waitForStore x) := by
  refine engine ⟨holds.job, busy, holds.normal, fun hL => ?_⟩
  have noPoll := (sound hL).not_poll (owes hL)
  have sound' : Engine.Sound { s.eng x.chan with ended := true, interval := 0 } x.defn (s.job x.job).rt :=
    { sound hL with }
  exact sound'.lawful (state hL) (hlag hL) (by simp) (fun hs => by simp [reply hL hs, noPoll]) (fun _ => owes hL)
    (fun _ => cancel hL)

/-! ### Busy waits and unit ends -/

theorem afterBusy (holds : (s.eng x.chan).Holds K x)
    (h : L → (s.eng x.chan).AtRest x.defn (s.job x.job).rt) : PassOut K L s x (s.afterBusy x) := by
  have shifted : L → (s.eng x.chan).bytesShifted (s.job x.job).rt = (s.job x.job).rt.progress := fun hL =>
    Engine.Sound.shifted_of_paid (h hL).paid
  unfold State.afterBusy
  split
  · rename_i hpoll
    exact startShift holds fun hL => ⟨(h hL).sound, (h hL).lag, fun hd => absurd hpoll hd⟩
  · rename_i hpoll
    rw [State.bytesEnded_of_ne_poll hpoll]
    split
    · rename_i hend
      refine enterLag holds (by simp) (fun hL => (h hL).sound) (fun hL => (h hL).paid) fun hL => ⟨hpoll, rfl, ?_⟩
      have := (h hL).sound.bytes hpoll
      rw [shifted hL] at hend this
      exact this.antisymm hend
    · rename_i hleft
      split
      · rename_i hask
        simp only [State.suspensionAsked, Bool.and_eq_true, decide_eq_true_eq] at hask
        refine enterLag holds (fun _ => hask.2.1.1.1.1) (fun hL => (h hL).sound) (fun hL => (h hL).paid)
          fun hL => ⟨hpoll, ?_⟩
        rw [← shifted hL]
        exact Nat.lt_of_not_le hleft
      · exact startShift holds fun hL => ⟨(h hL).sound, (h hL).lag, fun _ => Nat.lt_of_not_le hleft⟩

theorem enterBusy (holds : (s.eng x.chan).Holds K x)
    (h : L → (s.eng x.chan).AtRest x.defn (s.job x.job).rt) (ended : L → (s.eng x.chan).ended = false) :
    PassOut K L s x (s.enterBusy x) := by
  unfold State.enterBusy
  split
  · exact afterBusy holds h
  · refine engine ⟨holds.job, fun _ => by simp, holds.normal, fun hL => ?_⟩
    have sound' : Engine.Sound { s.eng x.chan with state := .busyWait, interval := x.prof.timeout.toNat } x.defn
      (s.job x.job).rt := { (h hL).sound with }
    exact sound'.lawful_paid (h hL).paid (.inr (.inl rfl)) (h hL).lag (ended hL) (by simp) (by simp)

theorem unitSteps (holds : (s.eng x.chan).Holds K x)
    (h : L → (s.eng x.chan).AtRest x.defn (s.job x.job).rt) : PassOut K L s x (s.unitSteps x) := by
  unfold State.unitSteps
  refine of_setEng (e := { s.eng x.chan with unitPos := 0, ended := false }) ?_
  have rest : L → Engine.AtRest { s.eng x.chan with unitPos := 0, ended := false } x.defn (s.job x.job).rt := fun hL =>
    ⟨{ (h hL).sound with }, (h hL).lag, (h hL).paid⟩
  dsimp only
  split
  · rename_i hcancel
    exact enterLag (by rw [State.eng_setEng_self]; exact holds.of_eq rfl rfl) (by simp)
      (fun hL => by simpa using (rest hL).sound) (fun hL => by simpa using (rest hL).paid) fun _ => hcancel
  · exact enterBusy (by rw [State.eng_setEng_self]; exact holds.of_eq rfl rfl) (fun hL => by simpa using rest hL) (by simp)

/-! ### Select assertion and lead -/

theorem leadDone (holds : (s.eng x.chan).Holds K x)
    (h : L → (s.eng x.chan).AtRest x.defn (s.job x.job).rt) (ended : L → (s.eng x.chan).ended = false) :
    PassOut K L s x (s.leadDone x) := by
  unfold State.leadDone
  split
  · rename_i hcancel
    exact enterLag holds (by simp) (fun hL => (h hL).sound) (fun hL => (h hL).paid) fun _ => hcancel
  · exact enterBusy holds h ended

/-- An engine in LEAD, its select line asserted or not, is lawful while the pass has a byte left. -/
theorem lead {e : Engine} (holds : e.Holds K x) (state : e.state = .lead)
    (h : L → e.AtRest x.defn (s.job x.job).rt) (ended : L → e.ended = false)
    (left : L → x.defn.kind ≠ .poll → (s.job x.job).rt.progress < x.defn.winA.len) :
    PassOut K L s x (s.setEng x.chan e) :=
  engine ⟨holds.job, fun _ => by simp [state], holds.normal, fun hL =>
    (h hL).sound.lawful_paid (h hL).paid (.inl state) (h hL).lag (ended hL) (fun _ => left hL) (by simp [state])⟩

theorem assertSelect (holds : (s.eng x.chan).Holds K x)
    (h : L → (s.eng x.chan).AtRest x.defn (s.job x.job).rt) (ended : L → (s.eng x.chan).ended = false)
    (left : L → x.defn.kind ≠ .poll → (s.job x.job).rt.progress < x.defn.winA.len) :
    PassOut K L s x (s.assertSelect x) := by
  have rest : L → Engine.AtRest { s.eng x.chan with state := .lead, asserted := true, interval := x.prof.leadClocks } x.defn
      (s.job x.job).rt := fun hL => ⟨{ (h hL).sound with }, (h hL).lag, (h hL).paid⟩
  unfold State.assertSelect
  dsimp only
  split
  · exact of_setEng (leadDone (by rw [State.eng_setEng_self]; exact holds.of_eq rfl rfl) (fun hL => by simpa using rest hL)
      (by simpa using ended))
  · exact lead (holds.of_eq rfl rfl) rfl rest ended left

/-- The engine of a pass that begins, its first byte asked for (R143). -/
theorem begun {r : Runtime} (e : Engine) {d : JobDef} (j : Fin 64) (left : r.progress < d.bound) (pos : Nat) :
    (e.begin j (nextOut d pos)).AtRest d r := by
  refine ⟨?_, rfl, rfl⟩
  have noStore : (e.begin j (nextOut d pos)).storeWaiting = none := by
    unfold Engine.storeWaiting Engine.begin
    cases nextOut d pos <;> rfl
  exact {
    attempts := fun hd => by rwa [JobDef.bound_poll hd] at left
    commands := fun _ => Nat.zero_le _
    bytes := fun hd => by rw [JobDef.bound_of_ne_poll hd] at left; exact left.le
    read := fun k hk => nextOut_waiting (p := pos) hk
    readAsked := OutByte.asks_count_read _
    cur := fun k hk => by cases hk
    oneStore := by
      show (nextOut d pos).asks.countP _ ≤ 1
      rw [OutByte.asks_no_store]; exact Nat.zero_le _
    stores := fun hs => absurd noStore hs
    owed := by
      have paid : (e.begin j (nextOut d pos)).owed = false := rfl
      simp [noStore, paid] }

theorem startPass (left : L → (s.job x.job).rt.progress < x.defn.bound) : PassOut K L s x (s.startPass x) := by
  unfold State.startPass State.selectTarget
  generalize (if x.defn.kind = .poll then 0 else (s.job x.job).rt.progress) = pos
  have rest : L → ((s.eng x.chan).begin x.job (nextOut x.defn pos)).AtRest x.defn (s.job x.job).rt := fun hL =>
    begun _ _ (left hL) pos
  have begins : ∀ pos, ((s.eng x.chan).begin x.job (nextOut x.defn pos)).Holds K x := fun _ =>
    ⟨rfl, fun _ hl => by cases hl⟩
  have byteLeft : L → x.defn.kind ≠ .poll → (s.job x.job).rt.progress < x.defn.winA.len := fun hL hd => by
    rw [← JobDef.bound_of_ne_poll hd]; exact left hL
  have target : ∀ e : Engine, e.AtRest x.defn (s.job x.job).rt → ∀ st a sv rh i,
      Engine.AtRest { e with state := st, asserted := a, served := sv, restHigh := rh, interval := i } x.defn
        (s.job x.job).rt := fun e h _ _ _ _ _ => ⟨{ h.sound with }, h.lag, h.paid⟩
  refine of_setEng (e := (s.eng x.chan).begin x.job (nextOut x.defn pos)) ?_
  simp only [State.eng_setEng_self]
  split
  · refine of_setEng (assertSelect ?_ (fun hL => ?_) ?_ byteLeft) <;> rw [State.eng_setEng_self]
    · exact (begins pos).of_eq rfl rfl
    · exact target _ (rest hL) _ _ _ _ _
    · exact fun _ => rfl
  · exact lead ((begins pos).of_eq rfl rfl) rfl (fun hL => target _ (rest hL) _ _ _ _ _) (fun _ => rfl) byteLeft

end PassOut
end Sys2Proof.Machine
end

section
/-! SUPPORT. The events of a pass (`PassMove.out`): the end of a byte and of a store, attempts, LAG, cancels and grants. -/
namespace Sys2Proof.Machine

/-! ### A byte is complete -/

/-- The runtime part with one byte more. -/
def Runtime.more (r : Runtime) : Runtime := { r with progress := r.progress + 1 }

/-- The engine as a byte is complete (R148). -/
def Engine.counted (e : Engine) : Engine := { e with segCount := e.segCount + 1, owed := false }

theorem State.countByte_eq (s : State) (x : Pass) :
    s.countByte x = (s.setEng x.chan (s.eng x.chan).counted).setRt x.job (s.job x.job).rt.more := rfl

@[simp] theorem State.countByte_eng (s : State) (x : Pass) : (s.countByte x).eng x.chan = (s.eng x.chan).counted := by
  simp [State.countByte_eq]

@[simp] theorem State.countByte_job (s : State) (x : Pass) :
    ((s.countByte x).job x.job).rt = (s.job x.job).rt.more := by
  simp [State.countByte_eq]

/-- A byte that the pass had left is counted, no store being left. -/
theorem Engine.counted_sound {e : Engine} {d : JobDef} {r : Runtime} (hd : d.kind ≠ .poll) (left : r.progress < d.winA.len)
    (read : ∀ k, e.nxt = .waiting k → d.kind ≠ .receive ∧ k < d.winA.len) (readAsked : e.asks.count .read = e.nxt.reads)
    (cur : ∀ k, e.cur ≠ .waiting k) (noStore : e.storeWaiting = none) : e.counted.Sound d r.more where
  attempts h := absurd h hd
  commands h := absurd h hd
  bytes _ := by simpa [Engine.bytesShifted, Engine.counted, Runtime.more] using left
  read := read
  readAsked := readAsked
  cur := cur
  oneStore := by
    show e.asks.countP _ ≤ 1
    rw [Engine.no_store_asked noStore]; exact Nat.zero_le _
  stores h := absurd noStore h
  owed := by
    have h : e.counted.storeWaiting = none := noStore
    have paid : e.counted.owed = false := rfl
    simp [h, paid]

/-- The store of a byte whose eighth period has ended is made, and the engine has gone on (R148). -/
theorem Engine.Lawful.storedLate {e : Engine} {d : JobDef} {r : Runtime} {b : Byte} {rest : List Ask} (h : e.Lawful d r)
    (asked : e.asks = .store b :: rest) (owes : e.owed = true) (goes : e.ended = false) :
    Engine.Lawful { e with asks := rest }.counted d r.more := by
  have noStore : ({ e with asks := rest } : Engine).storeWaiting = none := Engine.storeWaiting_pop_store asked h.oneStore
  have hd : d.kind ≠ .poll := fun hd => by
    have := (h.store (h.owed owes)).1
    rw [hd] at this; cases this
  have shifted : Engine.bytesShifted { e with asks := rest }.counted r.more = e.bytesShifted r := by
    simp [Engine.bytesShifted, Engine.counted, Runtime.more, owes]
  exact { h with
    attempts := fun hp => absurd hp hd
    bytes := fun hp => by rw [shifted]; exact h.bytes hp
    byteLeft := fun hp hs he => by rw [shifted]; exact h.byteLeft hp hs he
    readAsked := by simpa [asked, Engine.counted] using h.readAsked
    store := fun hs => absurd noStore hs
    oneStore := by
      show rest.countP _ ≤ 1
      have := h.oneStore
      rw [asked, List.countP_cons] at this
      omega
    owed := by simp [Engine.counted]
    ended := fun he => by rw [show e.ended = false from goes] at he; cases he
    reason := fun l hl => absurd (h.inLag.mpr (by simp [show e.lag = some l from hl])) fun hlag => by
      have := (h.store (h.owed owes)).2.1
      simp_all }

/-- The store of a byte still in SHIFT is made (R148). -/
theorem Engine.Lawful.storedEarly {e : Engine} {d : JobDef} {r : Runtime} {b : Byte} {rest : List Ask} (h : e.Lawful d r)
    (asked : e.asks = .store b :: rest) (early : e.owed = false) : Engine.Lawful { e with asks := rest } d r := by
  have noStore : ({ e with asks := rest } : Engine).storeWaiting = none := Engine.storeWaiting_pop_store asked h.oneStore
  exact { h with
    readAsked := by simpa [asked] using h.readAsked
    store := fun hs => absurd noStore hs
    oneStore := by
      show rest.countP _ ≤ 1
      have := h.oneStore
      rw [asked, List.countP_cons] at this
      omega
    owed := fun ho => by rw [show e.owed = false from early] at ho; cases ho
    reason := fun l hl => by have := h.reason l hl; cases l <;> exact this }

/-- The engine stays for a store that is made: it owes nothing any more (R148). -/
theorem Engine.Lawful.storedEnd {e : Engine} {d : JobDef} {r : Runtime} {b : Byte} {rest : List Ask} (h : e.Lawful d r)
    (asked : e.asks = .store b :: rest) (ended : e.ended = true) :
    Engine.AtRest { e with asks := rest }.counted d r.more := by
  have owes := h.ended ended
  have noStore : ({ e with asks := rest } : Engine).storeWaiting = none := Engine.storeWaiting_pop_store asked h.oneStore
  have cur : ∀ k, e.cur ≠ .waiting k := fun k hk => by
    rw [(h.readInShift k hk).2] at ended; cases ended
  have hstore := h.store (h.owed owes)
  have hd : d.kind ≠ .poll := fun hd => by rw [hd] at hstore; cases hstore.1
  refine ⟨Engine.counted_sound hd ?_ (fun k hk => h.read k (.inr hk)) ?_ cur noStore, ?_, rfl⟩
  · have := h.bytes hd
    simpa [Engine.bytesShifted, owes] using this
  · have := h.readAsked
    rw [asked, OutByte.reads_eq_zero cur] at this
    simpa using this
  · exact h.no_lag (by have := hstore.2.1; rintro hlag; simp_all)

/-- A read is granted: one read less is asked for, and one byte less waits. -/
theorem Engine.Lawful.readGranted {e : Engine} {d : JobDef} {r : Runtime} {rest : List Ask} (h : e.Lawful d r)
    (asked : e.asks = .read :: rest) {cur nxt : OutByte} (hcur : ∀ k, cur = .waiting k → e.cur = .waiting k)
    (hnxt : ∀ k, nxt = .waiting k → e.nxt = .waiting k) (less : cur.reads + nxt.reads + 1 = e.cur.reads + e.nxt.reads) :
    Engine.Lawful { e with asks := rest, cur := cur, nxt := nxt } d r := by
  have store : ({ e with asks := rest, cur := cur, nxt := nxt } : Engine).storeWaiting = e.storeWaiting :=
    Engine.storeWaiting_pop_read asked
  exact { h with
    read := fun k hk => h.read k (hk.imp (hcur k) (hnxt k))
    readAsked := by
      have := h.readAsked
      rw [asked, List.count_cons_self, ← less] at this
      exact Nat.add_right_cancel this
    readInShift := fun k hk => h.readInShift k (hcur k hk)
    store := fun hs => h.store (by rwa [store] at hs)
    oneStore := by simpa [asked] using h.oneStore
    owed := fun ho => by rw [store]; exact h.owed ho
    reason := fun l hl => by have := h.reason l hl; cases l <;> exact this }

namespace PassOut

variable {K L : Prop} {s t : State} {x : Pass}

theorem of_countByte (h : PassOut K L (s.countByte x) x t) : PassOut K L s x t :=
  of_setEng (of_setRt (s := s.setEng x.chan (s.eng x.chan).counted) (r := (s.job x.job).rt.more) rfl h)

/-! ### The end of a byte -/

/-- What follows a byte (R149), which the engine owes if its store waits. -/
theorem afterByte (holds : (s.eng x.chan).Holds K x) (busy : K → (s.eng x.chan).state ≠ .idle)
    (sound : L → (s.eng x.chan).Sound x.defn (s.job x.job).rt) (lag : L → (s.eng x.chan).lag = none)
    (shift : L → (s.eng x.chan).state = .shift) (reply : L → (s.eng x.chan).replying = false) :
    PassOut K L s x (s.afterByte x) := by
  have stay (owes : (s.eng x.chan).owed = true) : PassOut K L s x (s.waitForStore x) :=
    waitForStore holds busy sound lag (fun _ => owes) (fun hL => .inl (shift hL)) (fun hL _ => reply hL)
      fun hL hgap => by rw [shift hL] at hgap; cases hgap
  unfold State.afterByte
  dsimp only
  split
  · split
    · exact stay ‹_›
    · rename_i hpaid
      exact enterLag holds (by simp) sound (fun _ => Bool.eq_false_iff.mpr hpaid) fun _ => trivial
  · split
    · rename_i hcancel
      split
      · exact stay ‹_›
      · rename_i hpaid
        exact enterLag holds (by simp) sound (fun _ => Bool.eq_false_iff.mpr hpaid) fun _ => hcancel
    · split
      · rename_i hnext
        simp only [Bool.and_eq_true, decide_eq_true_eq] at hnext
        exact enterGap holds fun hL =>
          ⟨sound hL, lag hL, fun hd => by rw [State.bytesEnded_of_ne_poll hd] at hnext; exact hnext.2⟩
      · split
        · refine engine ⟨holds.job, fun _ => by simp, holds.normal, fun hL => ?_⟩
          have sound' : Engine.Sound { s.eng x.chan with state := .unitEnd, ended := false, interval := x.prof.period }
            x.defn (s.job x.job).rt := { sound hL with }
          exact sound'.lawful (.inr (.inr rfl)) (lag hL) (by simp) (by simp) (by simp) (by simp)
        · split
          · exact stay ‹_›
          · rename_i hpaid
            exact unitSteps holds fun hL => ⟨sound hL, lag hL, Bool.eq_false_iff.mpr hpaid⟩


/-- The engine goes on once the store it stayed for is made, and else as it was (R148, R153, R164, R165). -/
theorem afterStore (holds : (s.eng x.chan).Holds K x) (busy : K → (s.eng x.chan).state ≠ .idle)
    (goes : L → (s.eng x.chan).ended = false → (s.eng x.chan).Lawful x.defn (s.job x.job).rt)
    (stayed : L → (s.eng x.chan).ended = true → (s.eng x.chan).AtRest x.defn (s.job x.job).rt ∧
      ((s.eng x.chan).state = .shift ∨ (s.eng x.chan).state = .gap ∨ (s.eng x.chan).state = .unitEnd) ∧
      ((s.eng x.chan).state = .gap → (s.job x.job).rt.cancel = true)) : PassOut K L s x (s.afterStore x) := by
  have same (h : L → (s.eng x.chan).Lawful x.defn (s.job x.job).rt) : PassOut K L s x s := by
    have out := engine (s := s) ⟨holds.job, busy, holds.normal, h⟩
    rwa [State.setEng_self] at out
  unfold State.afterStore
  dsimp only
  split
  · rename_i hgoes
    exact same fun hL => goes hL (by simpa using hgoes)
  · rename_i hended
    have ended : (s.eng x.chan).ended = true := by simpa using hended
    have rest : L → (s.eng x.chan).AtRest x.defn (s.job x.job).rt := fun hL => (stayed hL ended).1
    have elsewhere {st : EngState} (hst : (s.eng x.chan).state = st) (h1 : st ≠ .shift) (h2 : st ≠ .gap)
        (h3 : st ≠ .unitEnd) : PassOut K L s x s := same fun hL => by
      have := (stayed hL ended).2.1
      simp_all
    split
    · split
      · exact enterLag holds (by simp) (fun hL => (rest hL).sound) (fun hL => (rest hL).paid) fun _ => trivial
      · split
        · rename_i hcancel
          exact enterLag holds (by simp) (fun hL => (rest hL).sound) (fun hL => (rest hL).paid) fun _ => hcancel
        · exact unitSteps holds rest
    · rename_i hgap
      exact enterLag holds (by simp) (fun hL => (rest hL).sound) (fun hL => (rest hL).paid)
        fun hL => (stayed hL ended).2.2 hgap
    · exact unitSteps holds rest
    all_goals exact elsewhere ‹_› (by simp) (by simp) (by simp)

/-! ### POLL attempts -/

theorem settleAttempt (poll : L → x.defn.kind = .poll)
    (left : L → (s.job x.job).rt.progress < x.defn.retryLimit.toNat) : PassOut K L s x (s.settleAttempt x) := by
  have bound : L → (s.job x.job).rt.progress + 1 ≤ x.defn.bound := fun hL => by
    rw [JobDef.bound_poll (poll hL)]; exact left hL
  unfold State.settleAttempt
  refine of_setRt (r := { (s.job x.job).rt with progress := (s.job x.job).rt.progress + 1,
                                                lastPoll := (s.eng x.chan).inByte.getD 0 }) rfl ?_
  have ends {l : LagReason} (hl : l ≠ .suspension) :
      PassOut K L (s.countAttempt x ((s.eng x.chan).inByte.getD 0)) x
        ((s.countAttempt x ((s.eng x.chan).inByte.getD 0)).finishPass x l) :=
    finish (fun _ h => absurd h hl) (by simpa [State.countAttempt] using bound) fun _ h => absurd h hl
  dsimp only
  split
  · exact ends (by simp)
  · split
    · exact ends (by simp)
    · rename_i hlimit
      have more : L → (s.job x.job).rt.progress + 1 < x.defn.bound := fun hL => by
        rw [JobDef.bound_poll (poll hL)]
        simpa [State.countAttempt] using hlimit
      split
      · exact ends (by simp)
      · split
        · rename_i hask
          simp only [State.suspensionAsked, Bool.and_eq_true, decide_eq_true_eq] at hask
          exact finish (fun _ _ => hask.1.1.1.1) (by simpa [State.countAttempt] using bound)
            fun hL _ => by simpa [State.countAttempt] using more hL
        · unfold State.enterPollWait
          split
          · exact startPass (by simpa [State.countAttempt] using more)
          · refine engine ⟨rfl, fun _ => by simp, fun _ hl => (by cases hl), fun hL => ?_⟩
            have waits : Engine.Sound { ((s.countAttempt x ((s.eng x.chan).inByte.getD 0)).eng x.chan).release with
                state := .pollWait, job := some x.job, interval := x.defn.interval.toNat } x.defn
                ((s.countAttempt x ((s.eng x.chan).inByte.getD 0)).job x.job).rt :=
              { attempts := fun _ => by
                  rw [← JobDef.bound_poll (poll hL)]
                  simpa [State.countAttempt] using more hL
                commands := fun _ => Nat.zero_le _
                bytes := fun hd => absurd (poll hL) hd
                read := fun k hk => by cases hk
                readAsked := rfl
                cur := fun k hk => by cases hk
                oneStore := Nat.zero_le _
                stores := fun hs => absurd rfl hs
                owed := by simp [Engine.release, Engine.powerOn, Engine.storeWaiting] }
            exact waits.lawful_paid rfl (.inr (.inr rfl)) rfl rfl (by simp) fun _ => poll hL

theorem enterAttemptLag (holds : (s.eng x.chan).Holds K x) (poll : L → x.defn.kind = .poll)
    (sound : L → (s.eng x.chan).Sound x.defn (s.job x.job).rt) (paid : L → (s.eng x.chan).owed = false)
    (reply : (s.eng x.chan).inByte ≠ none) : PassOut K L s x (s.enterAttemptLag x) := by
  unfold State.enterAttemptLag
  split
  · exact settleAttempt poll fun hL => (sound hL).attempts (poll hL)
  · exact engine (inLag holds (by simp) sound paid fun hL => ⟨poll hL, reply⟩)

/-! ### The eighth bit period -/

/-- A received byte at the end of its eighth period: what follows it is as after every byte (R148, R149). -/
theorem endStored (holds : (s.eng x.chan).Holds K x) (busy : K → (s.eng x.chan).state ≠ .idle) (b : Byte)
    (stores : x.defn.kind.stores = true) (shift : (s.eng x.chan).state = .shift) (cur : ∀ k, (s.eng x.chan).cur ≠ .waiting k)
    (reply : L → (s.eng x.chan).replying = false) (left : L → (s.job x.job).rt.progress < x.defn.winA.len)
    (early : (s.eng x.chan).inByte ≠ none ∨ (s.eng x.chan).storeWaiting = none)
    (h : L → (s.eng x.chan).Lawful x.defn (s.job x.job).rt) : PassOut K L s x ((s.endStored x b).afterByte x) := by
  have noPoll : x.defn.kind ≠ .poll := fun hd => by rw [hd] at stores; cases stores
  have lag : L → (s.eng x.chan).lag = none := fun hL => (h hL).no_lag (by simp [shift])
  have readAsked : L → (s.eng x.chan).asks.count .read = (s.eng x.chan).nxt.reads := fun hL => by
    rw [(h hL).readAsked, OutByte.reads_eq_zero cur, Nat.zero_add]
  have owing (e : Engine) (hr : L → e.asks.count .read = e.nxt.reads) (hc : e.cur = (s.eng x.chan).cur)
      (hn : e.nxt = (s.eng x.chan).nxt) (hst : L → e.storeWaiting ≠ none) (ho : e.owed = true)
      (hone : L → e.asks.countP (fun a => decide (a ≠ .read)) ≤ 1) : L → e.Sound x.defn (s.job x.job).rt := fun hL =>
    { attempts := fun hd => absurd hd noPoll
      commands := fun hd => absurd hd noPoll
      bytes := fun _ => by simpa [Engine.bytesShifted, ho] using left hL
      read := fun k hk => (h hL).read k (.inr (hn ▸ hk))
      readAsked := hr hL
      cur := fun k hk => cur k (hc ▸ hk)
      oneStore := hone hL
      stores := fun _ => stores
      owed := ⟨fun _ => hst hL, fun _ => ho⟩ }
  unfold State.endStored
  dsimp only
  split
  · rename_i hstored
    simp only [Bool.and_eq_true, Option.isNone_iff_eq_none] at hstored
    refine of_countByte (afterByte ?_ ?_ (fun hL => ?_) ?_ ?_ ?_)
    all_goals simp only [State.countByte_eng, State.countByte_job]
    · exact holds.of_eq rfl rfl
    · exact busy
    · exact Engine.counted_sound noPoll (left hL) (fun k hk => (h hL).read k (.inr hk)) (readAsked hL) cur hstored.2
    · exact lag
    · exact fun _ => shift
    · exact reply
  · split
    · rename_i hboth hin
      have waits : (s.eng x.chan).storeWaiting ≠ none := fun hs => hboth (by simp [hin, hs])
      refine of_setEng (afterByte ?_ ?_ ?_ ?_ ?_ ?_) <;> rw [State.eng_setEng_self]
      · exact holds.of_eq rfl rfl
      · exact busy
      · exact owing { s.eng x.chan with owed := true } readAsked rfl rfl (fun _ => waits) rfl fun hL => (h hL).oneStore
      · exact lag
      · exact fun _ => shift
      · exact reply
    · rename_i hin
      have noStore : (s.eng x.chan).storeWaiting = none := early.resolve_left (by simpa using hin)
      have waits := Engine.storeWaiting_push noStore b
      refine of_setEng (afterByte ?_ ?_ ?_ ?_ ?_ ?_) <;> rw [State.eng_setEng_self]
      · exact holds.of_eq rfl rfl
      · exact busy
      · refine owing { s.eng x.chan with inByte := some b, asks := (s.eng x.chan).asks ++ [.store b], owed := true }
          (fun hL => by simpa using readAsked hL) rfl rfl (fun _ hs => ?_) rfl fun _ => ?_
        · have : some b = none := waits.symm.trans hs
          cases this
        · simp only [List.countP_append, Engine.no_store_asked noStore]
          simp
      · exact lag
      · exact fun _ => shift
      · exact reply

theorem endByte (holds : (s.eng x.chan).Holds K x) (b : Byte) (can : (s.eng x.chan).byteCanEnd = true)
    (h : L → (s.eng x.chan).Lawful x.defn (s.job x.job).rt) : PassOut K L s x (s.endByte x b) := by
  obtain ⟨shift, goes, cur, early⟩ := Engine.byteCanEnd_spec can
  have lag : L → (s.eng x.chan).lag = none := fun hL => (h hL).no_lag (by simp [shift])
  have noStore : L → x.defn.kind.stores = false → (s.eng x.chan).storeWaiting = none := fun hL hkind => by
    by_contra hs
    rw [((h hL).store hs).1] at hkind; cases hkind
  have paid : L → x.defn.kind.stores = false → (s.eng x.chan).owed = false := fun hL hkind => by
    by_contra ho
    exact (h hL).owed (by simpa using ho) (noStore hL hkind)
  have sound : L → x.defn.kind.stores = false → (s.eng x.chan).Sound x.defn (s.job x.job).rt := fun hL hkind =>
    (h hL).sound cur fun hs => absurd (noStore hL hkind) hs
  have left : L → x.defn.kind ≠ .poll → (s.job x.job).rt.progress < x.defn.winA.len := fun hL hd => by
    have := (h hL).byteLeft hd (.inr (.inl shift)) goes
    simp only [Engine.bytesShifted] at this
    omega
  unfold State.endByte
  dsimp only
  split
  · rename_i hreply
    have poll : L → x.defn.kind = .poll := fun hL => (((h hL).reply shift).mp hreply).1
    have quiet : L → x.defn.kind.stores = false := fun hL => by rw [poll hL]; rfl
    refine of_setEng (enterAttemptLag ?_ poll ?_ ?_ ?_) <;> rw [State.eng_setEng_self]
    · exact holds.of_eq rfl rfl
    · exact fun hL => { sound hL (quiet hL) with }
    · exact fun hL => paid hL (quiet hL)
    · simp
  · rename_i hreply
    have reply : (s.eng x.chan).replying = false := Bool.eq_false_iff.mpr hreply
    have busy : K → (s.eng x.chan).state ≠ .idle := fun _ => by simp [shift]
    have readAsked : L → (s.eng x.chan).asks.count .read = (s.eng x.chan).nxt.reads := fun hL => by
      rw [(h hL).readAsked, OutByte.reads_eq_zero cur, Nat.zero_add]
    refine of_setEng (e := { s.eng x.chan with
      sdo := (s.eng x.chan).lastLevel x.prof.order, unitPos := (s.eng x.chan).unitPos + 1 }) ?_
    cases hkind : x.defn.kind with
    | send =>
      refine of_countByte (afterByte ?_ ?_ (fun hL => ?_) ?_ ?_ ?_)
      all_goals simp only [State.countByte_eng, State.countByte_job, State.eng_setEng_self]
      · exact holds.of_eq rfl rfl
      · exact busy
      · exact Engine.counted_sound (by simp [hkind]) (left hL (by simp [hkind])) (fun k hk => (h hL).read k (.inr hk))
          (readAsked hL) cur (noStore hL (by simp [hkind, Kind.stores]))
      · exact lag
      · exact fun _ => shift
      · exact fun _ => reply
    | poll =>
      refine of_setEng (afterByte ?_ ?_ (fun hL => ?_) ?_ ?_ ?_) <;> simp only [State.eng_setEng_self]
      · exact holds.of_eq rfl rfl
      · exact busy
      · have more : (s.eng x.chan).attemptPos + 1 ≤ x.defn.winA.len := by
          have hle := (h hL).commands hkind
          have hne : (s.eng x.chan).attemptPos ≠ x.defn.winA.len := fun he =>
            hreply (((h hL).reply shift).mpr ⟨hkind, he⟩)
          omega
        exact { sound hL (by simp [hkind, Kind.stores]) with commands := fun _ => more }
      · exact lag
      · exact fun _ => shift
      · exact fun _ => reply
    | receive | exchange =>
      have hpoll : x.defn.kind ≠ .poll := by simp [hkind]
      refine endStored ?_ ?_ b (by simp [hkind, Kind.stores]) ?_ ?_ ?_ (fun hL => left hL hpoll) ?_ (fun hL => ?_)
      all_goals simp only [State.eng_setEng_self]
      · exact holds.of_eq rfl rfl
      · exact busy
      · exact shift
      · exact cur
      · exact fun _ => reply
      · exact early
      · have hold := h hL
        exact { hold with reason := fun l hl => by rw [lag hL] at hl; cases hl }

/-- The last bit of a byte arrives (R148, R158). -/
theorem bitsArrived (holds : (s.eng x.chan).Holds K x) (b : Byte) (can : (s.eng x.chan).byteCanEnd = true)
    (new : (s.eng x.chan).inByte = none) (h : L → (s.eng x.chan).Lawful x.defn (s.job x.job).rt) :
    PassOut K L s x (s.bitsArrived x b) := by
  obtain ⟨shift, goes, cur, early⟩ := Engine.byteCanEnd_spec can
  have noStore : (s.eng x.chan).storeWaiting = none := early.resolve_left (by simp [new])
  have busy : K → (s.eng x.chan).state ≠ .idle := fun _ => by simp [shift]
  have noLag : L → ∀ l, (s.eng x.chan).lag ≠ some l := fun hL l hl => by
    rw [(h hL).no_lag (by simp [shift])] at hl; cases hl
  have same : PassOut K L s x s := by
    have out := engine (s := s) ⟨holds.job, busy, holds.normal, h⟩
    rwa [State.setEng_self] at out
  unfold State.bitsArrived
  dsimp only
  split
  · exact same
  · split
    · refine engine ⟨holds.job, busy, holds.normal, fun hL => ?_⟩
      have hold := h hL
      exact { hold with
        store := fun hs => absurd noStore hs
        reason := fun l hl => absurd hl (noLag hL l) }
    · split
      · rename_i hstores
        refine engine ⟨holds.job, busy, holds.normal, fun hL => ?_⟩
        have hold := h hL
        have waits := Engine.storeWaiting_push noStore b
        exact { hold with
          readAsked := by simpa using hold.readAsked
          store := fun _ => ⟨hstores, .inl shift, .inr ⟨shift, goes, by simp⟩⟩
          oneStore := by
            simp only [List.countP_append, Engine.no_store_asked noStore]
            simp
          owed := fun ho => absurd noStore (hold.owed ho)
          reason := fun l hl => absurd hl (noLag hL l) }
      · exact same

/-! ### LAG and cancels -/

theorem lagDone (holds : (s.eng x.chan).Holds K x) (busy : K → (s.eng x.chan).state ≠ .idle)
    (lag : (s.eng x.chan).state = .lag) (h : L → (s.eng x.chan).Lawful x.defn (s.job x.job).rt) :
    PassOut K L s x (s.lagDone x) := by
  have bound : L → (s.job x.job).rt.progress ≤ x.defn.bound := fun hL =>
    ((h hL).sound_of_state (by simp [lag])).progress_le
  unfold State.lagDone
  split
  · have out := engine (s := s) ⟨holds.job, busy, holds.normal, h⟩
    rwa [State.setEng_self] at out
  · rename_i hl
    have poll : L → x.defn.kind = .poll := fun hL => ((h hL).reason _ hl).1
    exact settleAttempt poll fun hL => (h hL).attempts (poll hL)
  · rename_i r _ hl
    refine finish (fun hK hr => holds.normal hK (hr ▸ hl)) bound fun hL hr => ?_
    subst hr
    obtain ⟨hkind, hleft⟩ := (h hL).reason _ hl
    rwa [JobDef.bound_of_ne_poll hkind]

/-- What a cancel just requested does at once, on the pass that is under way (R161 to R167). -/
theorem carryCancel (holds : (s.eng x.chan).Holds K x) (busy : K → (s.eng x.chan).state ≠ .idle)
    (h : L → (s.eng x.chan).Lawful x.defn (s.job x.job).rt) (cancel : (s.job x.job).rt.cancel = true) :
    PassOut K L s x (s.carryCancel x) := by
  have same : PassOut K L s x s := by
    have out := engine (s := s) ⟨holds.job, busy, holds.normal, h⟩
    rwa [State.setEng_self] at out
  unfold State.carryCancel
  dsimp only
  split
  · rename_i hstate
    exact enterLag holds (by simp) (fun hL => (h hL).sound_of_state (by simp [hstate]))
      (fun hL => (h hL).paid (by simp [hstate]) (by simp [hstate]) (by simp [hstate])) fun _ => cancel
  · rename_i hstate
    have sound : L → (s.eng x.chan).Sound x.defn (s.job x.job).rt := fun hL => (h hL).sound_of_state (by simp [hstate])
    split
    · rename_i howes
      exact waitForStore holds busy sound (fun hL => (h hL).no_lag (by simp [hstate])) (fun _ => howes)
        (fun _ => .inr (.inl hstate)) (by simp [hstate]) fun _ _ => cancel
    · rename_i hpaid
      exact enterLag holds (by simp) sound (fun _ => Bool.eq_false_iff.mpr hpaid) fun _ => cancel
  · rename_i hstate
    exact finish (by simp) (fun hL => ((h hL).sound_of_state (by simp [hstate])).progress_le) (by simp)
  all_goals exact same

end PassOut

/-- What an engine in a lawful state that owes nothing is: at rest. -/
theorem Engine.Lawful.atRest {e : Engine} {d : JobDef} {r : Runtime} (h : e.Lawful d r)
    (hstate : e.state = .lead ∨ e.state = .busyWait ∨ e.state = .pollWait) : e.AtRest d r := by
  refine ⟨h.sound_of_state ?_, h.no_lag ?_, h.paid ?_ ?_ ?_⟩ <;> rcases hstate with hs | hs | hs <;> simp [hs]

theorem Engine.Lawful.not_ended {e : Engine} {d : JobDef} {r : Runtime} (h : e.Lawful d r) (paid : e.owed = false) :
    e.ended = false := by
  by_contra he
  rw [h.ended (by simpa using he)] at paid; cases paid

/-- Where an event leads the pass it is of. -/
theorem PassMove.out {K L : Prop} {s t : State} {x : Pass} (h : PassMove s x t)
    (he : (s.eng x.chan).InPass K L x (s.job x.job).rt) : PassOut K L s x t := by
  have holds : (s.eng x.chan).Holds K x := ⟨he.job, he.suspending⟩
  have leadRest (hs : (s.eng x.chan).state = .lead) : L → (s.eng x.chan).AtRest x.defn (s.job x.job).rt := fun hL =>
    (he.lawful hL).atRest (.inl hs)
  cases h with
  | select hs =>
    refine .assertSelect holds (leadRest hs) (fun hL => (he.lawful hL).not_ended (leadRest hs hL).paid) fun hL hd => ?_
    have left := (he.lawful hL).byteLeft hd (.inl hs) ((he.lawful hL).not_ended (leadRest hs hL).paid)
    rwa [Engine.Sound.shifted_of_paid (leadRest hs hL).paid] at left
  | leadEnd hs => exact .leadDone holds (leadRest hs) fun hL => (he.lawful hL).not_ended (leadRest hs hL).paid
  | ready hs => exact .afterBusy holds fun hL => (he.lawful hL).atRest (.inr (.inl hs))
  | timeout hs =>
    exact .enterLag holds (by simp) (fun hL => ((he.lawful hL).atRest (.inr (.inl hs))).sound)
      (fun hL => ((he.lawful hL).atRest (.inr (.inl hs))).paid) fun _ => trivial
  | byteEnd b can => exact .endByte holds b can he.lawful
  | bits b can new => exact .bitsArrived holds b can new he.lawful
  | gapEnd hs goes =>
    exact .startShift holds fun hL => ⟨(he.lawful hL).sound_of_state (by simp [hs]), (he.lawful hL).no_lag (by simp [hs]),
      fun hd => (he.lawful hL).byteLeft hd (.inr (.inr hs)) goes⟩
  | pulseStays hs owes =>
    exact .waitForStore holds he.busy (fun hL => (he.lawful hL).sound_of_state (by simp [hs]))
      (fun hL => (he.lawful hL).no_lag (by simp [hs])) (fun _ => owes) (fun _ => .inr (.inr hs)) (by simp [hs]) (by simp [hs])
  | pulseEnd hs paid =>
    exact .unitSteps holds fun hL =>
      ⟨(he.lawful hL).sound_of_state (by simp [hs]), (he.lawful hL).no_lag (by simp [hs]), paid⟩
  | lagEnd hs => exact .lagDone holds he.busy hs he.lawful
  | attempt hs =>
    refine .startPass fun hL => ?_
    have poll := (he.lawful hL).pollWait hs
    rw [JobDef.bound_poll poll]
    exact (he.lawful hL).attempts poll
  | readCur rest k b asked waits =>
    refine .engine ⟨he.job, he.busy, he.suspending, fun hL => ?_⟩
    exact (he.lawful hL).readGranted asked (by simp) (fun _ => id) (by simp [waits, OutByte.reads, Nat.add_comm])
  | readNext rest k b asked read waits =>
    refine .engine ⟨he.job, he.busy, he.suspending, fun hL => ?_⟩
    exact (he.lawful hL).readGranted asked (fun _ => id) (by simp) (by simp [waits, OutByte.reads])
  | readNone rest asked cur nxt =>
    refine .engine ⟨he.job, he.busy, he.suspending, fun hL => ?_⟩
    have none := (he.lawful hL).readAsked
    rw [asked, OutByte.reads_eq_zero cur, OutByte.reads_eq_zero nxt] at none
    simp at none
  | stored rest b asked early =>
    exact .engine ⟨he.job, he.busy, he.suspending, fun hL => (he.lawful hL).storedEarly asked early⟩
  | storedOwed rest b asked owes =>
    refine .of_setEng (.of_countByte (.afterStore ?_ ?_ ?_ ?_))
    all_goals simp only [State.countByte_eng, State.countByte_job, State.eng_setEng_self]
    · exact holds.of_eq rfl rfl
    · exact he.busy
    · exact fun hL goes => (he.lawful hL).storedLate asked owes goes
    · exact fun hL ended => ⟨(he.lawful hL).storedEnd asked ended, ((he.lawful hL).store ((he.lawful hL).owed owes)).2.1,
        (he.lawful hL).endedGap ended⟩

end Sys2Proof.Machine
end

section
/-! SUPPORT. The rules of the records (R67, R86, R87, R118) and the flags of jobs (R65, R92, R95, R106): what each move keeps of
them. -/
namespace Sys2Proof.Machine

/-! ### Definitions, profiles and timers -/

/-- A profile that TARGET_SET takes is in range (R77). -/
theorem lawful_of_parseProfile {p : List Byte} {f : Profile} (h : parseProfile p = some f) : f.lawful = true := by
  simp only [parseProfile, Option.bind_eq_bind, Option.bind_eq_some_iff] at h
  obtain ⟨mode, -, order, -, busy, -, strobe, -, slip, -, h⟩ := h
  split at h
  · cases h
  · rename_i hrules
    cases h
    simp only [not_or, not_and, Nat.not_lt] at hrules
    simp [Profile.lawful]
    grind

/-- A definition that JOB_DEFINE takes keeps the rules of R86 and R87. -/
theorem lawful_of_parseJobDef {p : List Byte} {d : JobDef} (h : parseJobDef p = some d) : d.lawful = true := by
  have inBounds : ∀ {i w}, windowOf p i = some w → w.inBounds = true := fun {i w} hw => by
    unfold windowOf at hw
    dsimp only at hw
    split at hw <;> simp_all
  have optInBounds : ∀ {b i o}, optWindowOf b p i = some o → o.all (·.inBounds) = true := fun {b i o} ho => by
    unfold optWindowOf at ho
    split at ho
    · obtain ⟨w, hw, rfl⟩ := Option.map_eq_some_iff.mp ho
      exact inBounds hw
    · cases ho; rfl
  simp only [parseJobDef, Option.bind_eq_bind, Option.bind_eq_some_iff] at h
  obtain ⟨target, -, kind, -, cls, -, winA, hA, present, -, winB, hB, source, -, success, -, failure, -, notify, -, h⟩ := h
  split at h
  · rename_i hrules
    cases h
    simp only [Bool.and_eq_true] at hrules
    have hA := inBounds hA
    have hB := optInBounds hB
    by_cases hk : kind = .poll <;> simp_all [JobDef.lawful]
  · cases h

theorem State.job_of_free {s : State} (h : s.jobs = Vector.replicate 64 .free) (j : Fin 64) : s.job j = .free := by
  simp [State.job, h]

theorem kept_definitionsLawful : Kept State.definitionsLawful where
  move {i s t} h hs := by
    have same {u : State} (defn : ∀ j, (u.job j).defn = (s.job j).defn) : u.definitionsLawful := fun j d hd =>
      hs j d (by rw [← defn]; exact hd)
    have cleared {u : State} (free : u.jobs = Vector.replicate 64 .free) : u.definitionsLawful := fun j d hd => by
      rw [State.job_of_free free] at hd; cases hd
    cases h with
    | link _ h => exact same fun j => by simp [State.job, h.side.jobs]
    | engine _ h => exact same h.side.defn
    | unclaim p _ _ _ r => exact same fun j => by simp [State.job, (State.reply_side { s with claim := none } p r .ok []).jobs]
    | abort c => exact same (s.abortChannel_side c).defn
    | reset u => exact cleared (State.resetRequest_jobs u)
    | powerOn => exact cleared (State.powerOn_jobs s)
    | define j d p parsed =>
      intro k d' hd
      rw [State.job_setJob] at hd
      split at hd
      · cases hd; exact lawful_of_parseJobDef parsed
      · exact hs k d' hd
    | release j =>
      intro k d' hd
      rw [State.job_setJob] at hd
      split at hd
      · cases hd
      · exact hs k d' hd
    | _ => exact hs
  pins _ _ _ _ _ _ hs := hs
  clear _ _ hs := hs
  countDown hs := hs

theorem kept_targetsLawful : Kept State.targetsLawful where
  move {i s t} h hs := by
    have same {u : State} (targets : u.targets = s.targets) : u.targetsLawful := fun n => by
      rw [show u.target n = s.target n by simp [State.target, targets]]; exact hs n
    have default {u : State} (targets : u.targets = Vector.replicate 16 .default) : u.targetsLawful := fun n => by
      rw [show u.target n = .default by simp [State.target, targets]]; decide
    cases h with
    | link _ h => exact same h.side.targets
    | engine _ h => exact same h.side.targets
    | unclaim p _ _ _ r => exact same (State.reply_side _ p r .ok []).targets
    | abort c => exact same (s.abortChannel_side c).targets
    | reset u => exact default (State.resetRequest_targets u)
    | powerOn => exact default (State.powerOn_targets s)
    | target n f p parsed =>
      intro k
      rw [State.target_setTarget]
      split
      · exact lawful_of_parseProfile parsed
      · exact hs k
    | _ => exact hs
  pins _ _ _ _ _ _ hs := hs
  clear _ _ hs := hs
  countDown hs := hs

/-- A timer's period is not 0, and its count at most the period (R118). -/
def Timer.lawful (t : Timer) : Prop := t.period ≠ 0 ∧ ∀ k, t.count = some k → k ≤ t.period.toNat

theorem Timer.lawful_set {t : Timer} (h : t.lawful) (period : Half) (run : Bool) : (t.set period run).lawful := by
  refine ⟨?_, fun k hk => ?_⟩
  · simp only [Timer.set]
    split
    · exact h.1
    · assumption
  · simp only [Timer.set] at hk ⊢
    split at hk
    · cases hk; exact le_rfl
    · cases hk

theorem Timer.lawful_afterClock {t : Timer} (h : t.lawful) (tick : Bool) : (t.afterClock tick).lawful := by
  unfold Timer.afterClock
  split
  · refine ⟨h.1, fun k hk => ?_⟩
    obtain ⟨n, hn, rfl⟩ := Option.map_eq_some_iff.mp hk
    exact (Nat.sub_le n 1).trans (h.2 n hn)
  · exact h

theorem kept_timersLawful : Kept State.timersLawful where
  move {i s t} h hs := by
    have same {u : State} (timers : u.timers = s.timers) : u.timersLawful := fun n => by
      rw [show u.timer n = s.timer n by simp [State.timer, timers]]; exact hs n
    have stopped {u : State} (timers : u.timers = Vector.replicate 4 .powerOn) : u.timersLawful := fun n => by
      rw [show u.timer n = .powerOn by simp [State.timer, timers]]
      exact ⟨by decide, fun k hk => by cases hk⟩
    have replaced {n : Fin 4} {x : Timer} (hx : x.lawful) : (s.setTimer n x).timersLawful := fun k => by
      rw [State.timer_setTimer]
      split
      · exact hx
      · exact hs k
    cases h with
    | link _ h => exact same h.side.timers
    | engine _ h => exact same h.side.timers
    | unclaim p _ _ _ r => exact same (State.reply_side _ p r .ok []).timers
    | abort c => exact same (s.abortChannel_side c).timers
    | reset u => exact stopped (State.resetRequest_timers u)
    | powerOn => exact stopped (State.powerOn_timers s)
    | reload n => exact replaced ⟨(hs n).1, fun k hk => by cases hk; exact le_rfl⟩
    | timer n period run => exact replaced (Timer.lawful_set (hs n) period run)
    | _ => exact hs
  pins _ _ _ _ _ _ hs := hs
  clear _ _ hs := hs
  countDown {s} hs n := by
    have h := Timer.lawful_afterClock (hs n) (decide (Config.clocksPerTick ≤ s.usPhase + 1))
    rwa [show (s.timer n).afterClock _ = s.countDown.timer n by simp [State.timer, State.countDown]] at h

/-! ### Flags of jobs -/

theorem Runtime.Counted.lawful {r r' : Runtime} (h : r.Counted r') (hr : r.lawful) : r'.lawful := by
  rw [h]; exact hr

/-- A trigger changes neither the cancel requested nor the pending swap of any job. -/
theorem State.trigger_flags (s : State) (k j : Fin 64) :
    ((s.trigger k).job j).rt.cancel = (s.job j).rt.cancel ∧ ((s.trigger k).job j).rt.swap = (s.job j).rt.swap := by
  unfold State.trigger
  split
  · simp
  · rw [State.job_of_jobs (State.choiceDueFor_jobs _ _), State.job_setRt]
    split
    · subst k; simp
    · simp
  · rw [State.job_setRt]
    split
    · subst k; simp
    · simp
  · rw [State.job_hand, State.job_setRt]
    split
    · subst k; simp
    · simp

theorem State.fire_flags (s : State) (l : Option (Fin 64)) (j : Fin 64) :
    ((s.fire l).job j).rt.cancel = (s.job j).rt.cancel ∧ ((s.fire l).job j).rt.swap = (s.job j).rt.swap := by
  cases l with
  | none => exact ⟨rfl, rfl⟩
  | some k => exact s.trigger_flags k j

/-- The ending leaves its marks in the job table. -/
theorem State.finishPass_jobs (s : State) (x : Pass) (l : LagReason) : (s.finishPass x l).jobs =
    ((s.setEng x.chan (s.eng x.chan).release).applyEnding x.chan x.job x.defn l).jobs := rfl

namespace State.runtimesLawful

variable {s t : State}

theorem trigger (h : s.runtimesLawful) (j : Fin 64) : (s.trigger j).runtimesLawful := by
  obtain ⟨hpending, hcancel, hswap⟩ := h j
  unfold State.trigger triggerOutcome
  split <;> rename_i ho
  · exact h
  · refine runtimesLawful_of_jobs (runtimesLawful_setRt h ?_) (State.choiceDueFor_jobs _ _)
    have armed : (s.job j).rt.state = .armed := by
      revert ho; cases (s.job j).rt.state <;> simp <;> split_ifs <;> simp
    simp [armed, JobState.inUse] at hpending hcancel hswap
    simp [Runtime.lawful, hpending, hcancel, hswap]
  · refine runtimesLawful_setRt h ⟨fun _ => ?_, hcancel, hswap⟩
    revert ho; cases (s.job j).rt.state <;> simp [JobState.inUse]
  · refine runtimesLawful_of_jobs
      (s := s.setRt j { (s.job j).rt with overruns := satInc8 (s.job j).rt.overruns }) ?_ rfl
    exact runtimesLawful_setRt h ⟨hpending, hcancel, hswap⟩

theorem fire (h : s.runtimesLawful) (l : Option (Fin 64)) : (s.fire l).runtimesLawful := by
  cases l with
  | none => exact h
  | some j => exact h.trigger j

theorem passEnd (h : s.runtimesLawful) {j : Fin 64} (cancel : (s.job j).rt.cancel = false) (d : JobDef) (o : PassOutcome) :
    (s.passEnd j d o).runtimesLawful := by
  obtain ⟨hpending, -, -⟩ := h j
  have counted : (s.setRt j ((s.job j).rt.countPass o.ending)).runtimesLawful :=
    runtimesLawful_setRt h (by simpa [Runtime.lawful, Runtime.countPass, cancel] using hpending)
  have fired := counted.fire (o.link d)
  obtain ⟨hcancel, hswap⟩ := State.fire_flags (s.setRt j ((s.job j).rt.countPass o.ending)) (o.link d) j
  rw [State.job_setRt_self] at hcancel hswap
  replace hcancel := hcancel.trans (c := false) (by simp [Runtime.countPass, cancel])
  replace hswap := hswap.trans (c := false) (by simp [Runtime.countPass])
  have ended : ∀ u : State, u.runtimesLawful → (u.job j).rt.cancel = false → (u.job j).rt.swap = false →
      (u.passEndState j).runtimesLawful := by
    intro u hu hc hs
    unfold State.passEndState
    split
    · exact runtimesLawful_of_jobs (runtimesLawful_setRt hu (by simp [Runtime.lawful, hc, hs])) (State.choiceDueFor_jobs _ _)
    · rename_i hp
      exact runtimesLawful_setRt hu (by simp [Runtime.lawful, hc, hs, hp])
  unfold State.passEnd
  dsimp only
  split
  · exact ended _ (runtimesLawful_of_jobs fired rfl) hcancel hswap
  · exact ended _ fired hcancel hswap

theorem cancelledEnding (h : s.runtimesLawful) (j : Fin 64) : (s.cancelledEnding j).runtimesLawful :=
  runtimesLawful_setRt (runtimesLawful_of_jobs h rfl) (Runtime.lawful_cancelled _)

theorem haltJob (h : s.runtimesLawful) (c : Fin 4) (j : Fin 64) (f : JobFault) : (s.haltJob c j f).runtimesLawful :=
  runtimesLawful_of_jobs (runtimesLawful_setRt h (Runtime.lawful_halt _ f)) rfl

theorem suspend (h : s.runtimesLawful) (c : Fin 4) {j : Fin 64} (cancel : (s.job j).rt.cancel = false) :
    (s.suspend c j).runtimesLawful := by
  unfold State.suspend
  split
  · exact runtimesLawful_of_jobs (runtimesLawful_setRt h (by simp [Runtime.lawful, JobState.inUse, cancel])) rfl
  · exact h

theorem applyEnding (h : s.runtimesLawful) (c : Fin 4) (j : Fin 64) (d : JobDef) (l : LagReason) :
    (s.applyEnding c j d l).runtimesLawful := by
  unfold State.applyEnding
  split
  · exact (h.haltJob _ j _).fire _
  · exact h.cancelledEnding j
  · exact h.cancelledEnding j
  · split
    · exact h.cancelledEnding j
    · exact h.passEnd (by simpa using ‹¬(s.job j).rt.cancel = true›) d _
  · split
    · exact h.cancelledEnding j
    · exact h.suspend c (by simpa using ‹¬(s.job j).rt.cancel = true›)

/-- An event of a pass counts, or hands an ending over. -/
theorem passOut {K L : Prop} {x : Pass} (h : s.runtimesLawful) (out : PassOut K L s x t) : t.runtimesLawful := by
  have counted {e : Engine} {r : Runtime} (hr : (s.job x.job).rt.Counted r) :
      ((s.setEng x.chan e).setRt x.job r).runtimesLawful :=
    runtimesLawful_setRt (runtimesLawful_of_jobs h rfl) (hr.lawful (h x.job))
  cases out with
  | stays e r hr => exact counted hr
  | ends e r l hr =>
    have released : (((s.setEng x.chan e).setRt x.job r).setEng x.chan
        (((s.setEng x.chan e).setRt x.job r).eng x.chan).release).runtimesLawful := runtimesLawful_of_jobs (counted hr) rfl
    exact runtimesLawful_of_jobs (released.applyEnding x.chan x.job x.defn l) (State.finishPass_jobs _ x l)

theorem stopEngine (h : s.runtimesLawful) (c : Fin 4) : (s.stopEngine c).runtimesLawful := by
  refine runtimesLawful_of_jobs (s := match s.pass? c with | none => s | some x => s.storeAtStop x) ?_ rfl
  split
  · exact h
  · unfold State.storeAtStop
    split
    · exact h
    · exact runtimesLawful_setRt (runtimesLawful_of_jobs h rfl) (Runtime.Counted.lawful rfl (h _))

end State.runtimesLawful

/-- No flag of the job stands. -/
def Runtime.noFlags (r : Runtime) : Prop := r.pending = false ∧ r.cancel = false ∧ r.swap = false

/-- A READY job has no flag (R92, R95, R106). -/
theorem Runtime.noFlags_of_ready {r : Runtime} (h : r.lawful) (ready : r.state = .ready) : r.noFlags := by
  obtain ⟨hpending, hcancel, hswap⟩ := h
  simp [ready, JobState.inUse] at hpending hcancel hswap
  exact ⟨hpending, hcancel, hswap⟩

theorem State.runtimesLawful_disarm {s : State} {j : Fin 64} (h : s.runtimesLawful) (flags : (s.job j).rt.noFlags) :
    (s.disarm j).runtimesLawful := by
  obtain ⟨hpending, hcancel, hswap⟩ := flags
  exact State.runtimesLawful_setRt h (by simp [Runtime.lawful, hpending, hcancel, hswap])

/-- An engine that stops changes no flag: it counts at most. -/
theorem State.stopEngine_counted (s : State) (c : Fin 4) (j : Fin 64) :
    (s.job j).rt.Counted ((s.stopEngine c).job j).rt := by
  have counted : (s.job j).rt.Counted ((match s.pass? c with | none => s | some x => s.storeAtStop x).job j).rt := by
    split
    · exact .refl _
    · rename_i x _
      unfold State.storeAtStop
      split
      · exact .refl _
      · rw [State.countByte_eq, State.job_setRt]
        split
        · subst j; rfl
        · exact .refl _
  exact counted

/-! ### The jobs of a channel (R83, R123) -/

theorem State.onChannel_iff {s : State} {c : Fin 4} {j : Fin 64} :
    s.onChannel c j = true ↔ ∃ d, (s.job j).defn = some d ∧ channelOf d.target = c := by
  unfold State.onChannel
  cases (s.job j).defn <;> simp

theorem State.onChannel_unique {s : State} {b c : Fin 4} {j : Fin 64} (hb : s.onChannel b j = true)
    (hc : s.onChannel c j = true) : b = c := by
  obtain ⟨d, hd, rfl⟩ := State.onChannel_iff.mp hb
  obtain ⟨d', hd', rfl⟩ := State.onChannel_iff.mp hc
  rw [Option.some.inj (hd.symm.trans hd')]

theorem State.isReady_iff {s : State} {c : Fin 4} {k : JobClass} {j : Fin 64} :
    s.isReady c k j = true ↔
      ∃ d, (s.job j).defn = some d ∧ (s.job j).rt.state = .ready ∧ channelOf d.target = c ∧ d.cls = k := by
  unfold State.isReady
  cases (s.job j).defn <;> simp [and_assoc]

theorem mem_allJobs (j : Fin 64) : j ∈ allJobs := List.mem_finRange j

/-- R123: the ready queue of a channel holds its READY jobs, of either class. -/
theorem State.mem_readyQueue {s : State} {c : Fin 4} {j : Fin 64} :
    j ∈ s.readyQueue c ↔ s.onChannel c j = true ∧ (s.job j).rt.state = .ready := by
  simp only [State.readyQueue, List.mem_append, List.mem_filter, mem_allJobs, true_and, State.isReady_iff, State.onChannel_iff]
  constructor
  · rintro (⟨d, hd, hr, hc, -⟩ | ⟨d, hd, hr, hc, -⟩) <;> exact ⟨⟨d, hd, hc⟩, hr⟩
  · rintro ⟨⟨d, hd, hc⟩, hr⟩
    cases hk : d.cls with
    | normal => exact .inr ⟨d, hd, hr, hc, hk⟩
    | urgent => exact .inl ⟨d, hd, hr, hc, hk⟩

/-- The jobs that an abort disarms have no flag by then. -/
theorem State.runtimesLawful_abortChannel {s : State} (h : s.runtimesLawful) (c : Fin 4) :
    (s.abortChannel c).runtimesLawful := by
  have disarms : ∀ (l : List (Fin 64)) (t : State), t.runtimesLawful → (∀ j ∈ l, (t.job j).rt.noFlags) →
      (l.foldl State.disarm t).runtimesLawful := by
    intro l
    induction l with
    | nil => exact fun t ht _ => ht
    | cons k l ih =>
      intro t ht flags
      refine ih _ (State.runtimesLawful_disarm ht (flags k (by simp))) fun j hj => ?_
      have hjk := flags j (by simp [hj])
      unfold State.disarm
      rw [State.job_setRt]
      split
      · subst j; exact hjk
      · exact hjk
  have halted : ∀ (t : State) (o : Option (Fin 64)), t.runtimesLawful → (t.abortJob c o).runtimesLawful := fun t o ht => by
    cases o with
    | none => exact ht
    | some j => exact ht.haltJob c j .aborted
  have kept : ∀ (t : State) (o : Option (Fin 64)) (j : Fin 64), (t.job j).rt.noFlags →
      ((t.abortJob c o).job j).rt.noFlags := by
    intro t o j hj
    cases o with
    | none => exact hj
    | some k =>
      unfold State.abortJob State.haltJob
      rw [State.job_hand, State.job_setRt]
      split
      · subst j; exact ⟨rfl, rfl, hj.2.2⟩
      · exact hj
  unfold State.abortChannel
  refine State.runtimesLawful_of_jobs (disarms _ _ (halted _ _ (halted _ _ (h.stopEngine c))) fun j hj => ?_) rfl
  obtain ⟨-, ready⟩ := State.mem_readyQueue.mp hj
  refine kept _ _ _ (kept _ _ _ ?_)
  rw [s.stopEngine_counted c j]
  exact Runtime.noFlags_of_ready (h j) ready

theorem EngineMove.runtimesLawful {b : Bool} {s t : State} (h : EngineMove b s t) (hs : s.runtimesLawful) : t.runtimesLawful := by
  cases h with
  | trigger j => exact hs.trigger j
  | flags | dueAll => exact State.runtimesLawful_of_jobs hs rfl
  | disarm j ready => exact State.runtimesLawful_disarm hs (Runtime.noFlags_of_ready (hs j) ready)
  | clear j halted =>
    refine State.runtimesLawful_setRt hs ?_
    obtain ⟨hpending, hcancel, -⟩ := hs j
    simp only [halted, JobState.inUse] at hpending hcancel
    simp_all [Runtime.lawful]
  | swap j d live defn =>
    refine State.runtimesLawful_setRt hs ?_
    have hj := hs j
    unfold Runtime.askSwap
    split_ifs with h1 h2
    · exact ⟨hj.1, hj.2.1, fun hw => by cases hw⟩
    · exact ⟨hj.1, hj.2.1, fun _ => .inl h2⟩
    · exact hj
  | cancelRunning j running =>
    unfold State.cancelRunning
    split
    · exact hs
    · have asked : (s.setRt j { (s.job j).rt with cancel := true }).runtimesLawful :=
        State.runtimesLawful_setRt hs ⟨(hs j).1, fun _ => running, (hs j).2.2⟩
      dsimp only
      split
      · exact asked
      · unfold State.onPass
        split
        · exact asked
        · rename_i x hx
          obtain ⟨-, hjob, -⟩ := State.pass?_eq hx
          dsimp only
          split
          · rename_i hxj
            have out : PassOut False False _ x _ := .carryCancel (s := s.setRt j { (s.job j).rt with cancel := true })
              ⟨by rw [(State.pass?_eq hx).1]; exact hjob, by simp⟩ (by simp) (by simp) (by rw [hxj]; simp)
            exact asked.passOut out
          · exact asked
  | cancelSuspended j =>
    unfold State.cancelSuspended
    dsimp only
    split
    · exact hs.cancelledEnding j
    · exact State.runtimesLawful_of_jobs (hs.cancelledEnding j) rfl
  | dispatch c k j _ ready =>
    obtain ⟨d, hd, hready, -⟩ := State.isReady_iff.mp ready
    obtain ⟨hpending, hcancel, hswap⟩ := Runtime.noFlags_of_ready (hs j) hready
    unfold State.dispatch
    split
    · exact hs
    · have runs : (s.setRt j { (s.job j).rt with state := .running, progress := 0 }).runtimesLawful :=
        State.runtimesLawful_setRt hs (by simp [Runtime.lawful, hpending, hswap])
      exact runs.passOut (K := False) (L := False) (.startPass (by simp))
  | resume c j =>
    unfold State.resume
    split
    · rename_i d hd hstate
      have runs : ((s.setArb c { s.arb c with slot := none }).setRt j { (s.job j).rt with state := .running }).runtimesLawful :=
        State.runtimesLawful_setRt (State.runtimesLawful_of_jobs hs rfl) (by simp [Runtime.lawful, JobState.inUse])
      exact runs.passOut (K := False) (L := False) (.startPass (by simp))
    · exact hs
  | pass x t hx h =>
    obtain ⟨-, hjob, -⟩ := State.pass?_eq hx
    exact hs.passOut (h.out (K := False) (L := False) ⟨hjob, by simp, by simp, by simp⟩)

theorem kept_runtimesLawful : Kept State.runtimesLawful where
  move {i s t} h hs := by
    have free {u : State} (jobs : u.jobs = Vector.replicate 64 .free) : u.runtimesLawful := fun j => by
      rw [State.job_of_free jobs]; exact Runtime.lawful_free
    have replaced {j : Fin 64} {x : Job} (hx : x.rt.lawful) : (s.setJob j x).runtimesLawful := fun k => by
      rw [State.job_setJob]
      split
      · exact hx
      · exact hs k
    cases h with
    | link _ h => exact State.runtimesLawful_of_jobs hs h.side.jobs
    | engine _ h => exact h.runtimesLawful hs
    | unclaim p _ _ _ r => exact State.runtimesLawful_of_jobs hs (State.reply_side { s with claim := none } p r .ok []).jobs
    | abort c => exact State.runtimesLawful_abortChannel hs c
    | reset u => exact free (State.resetRequest_jobs u)
    | powerOn => exact free (State.powerOn_jobs s)
    | define j d => exact replaced (by simp [Runtime.lawful, Runtime.free])
    | release j => exact replaced Runtime.lawful_free
    | _ => exact hs
  pins _ _ _ _ _ _ hs := hs
  clear _ _ hs := hs
  countDown hs := hs

end Sys2Proof.Machine

namespace Sys2Proof
open Sys2Proof.Machine

/-- Settles O8: the requests that write a definition, a profile or a timer check it first, and each change of a job's state
clears the flags that the new state does not have. -/
theorem stepKeepsRecordsLawful : Obligations.StepKeepsRecordsLawful :=
  ⟨fun _ _ => kept_definitionsLawful.step, fun _ _ => kept_targetsLawful.step, fun _ _ => kept_timersLawful.step,
    fun _ _ => kept_runtimesLawful.step⟩

end Sys2Proof
end

section
/-! SUPPORT. Steps, pins, reset and the clock (01): what a command of these does, case by case. -/
namespace Sys2Proof.Machine

/-! ### RSTn and the core clock -/

theorem execRstnLow_of_low {s : State} (h : s.rstnLow = true) : execRstnLow s = .next s := by simp [execRstnLow, h]

theorem execRstnLow_running {s : State} (h : s.rstnLow = false) (hc : s.clock = true) :
    execRstnLow s = .next { s.powerOn with rstnLow := true } := by simp [execRstnLow, h, hc]

theorem execRstnLow_stopped {s : State} (h : s.rstnLow = false) (hc : s.clock = false) :
    execRstnLow s = .next { s with rstnLow := true } := by simp [execRstnLow, h, hc]

theorem execRstnRise_of_high {s : State} (h : s.rstnLow = false) (n : Nat) (m a b : Bool) :
    execRstnRise n m a b s = .next s := by simp [execRstnRise, h]

/-- R2: a low time that the part has not taken up, or one below 10 µs, leaves no state to go on with. -/
theorem execRstnRise_short {s : State} (h : s.rstnLow = true) {n : Nat} (hn : s.phase ≠ .held ∨ n < 10) (m a b : Bool) :
    execRstnRise n m a b s = .fault .resetTooShort := by
  have hn' : s.phase ≠ .held ∨ n < Config.minResetMicros := hn
  rw [execRstnRise, h, if_neg (by simp), if_pos hn']

/-- R3, R5: the straps are sampled and the start-up clear begins. -/
theorem execRstnRise_held {s : State} (h : s.rstnLow = true) (hp : s.phase = .held) {n : Nat} (hn : 10 ≤ n) (m a b : Bool) :
    execRstnRise n m a b s = .next { s with
      rstnLow := false, phase := .startUp, clearPos := 0, straps := { spi := m, br1 := a, br0 := b }
      spi := { s.spi with ignored := m && s.spi.lselnLow, slot := none } } := by
  have hlong : ¬ (s.phase ≠ .held ∨ n < Config.minResetMicros) := by
    rintro (h | h)
    · exact h hp
    · exact absurd h (Nat.not_lt.mpr hn)
  rw [execRstnRise, h, if_neg (by simp), if_neg hlong]

theorem execCoreClockReturns_running {s : State} (h : s.clock = true) : execCoreClockReturns s = .next s := by
  simp [execCoreClockReturns, h]

/-- R2: a reset held with the clock stopped takes effect at the clock's return. -/
theorem execCoreClockReturns_low {s : State} (h : s.rstnLow = true) (hc : s.clock = false) :
    execCoreClockReturns s = .next { s.powerOn with clock := true } := by simp [execCoreClockReturns, h, hc]

theorem execCoreClockReturns_high {s : State} (h : s.rstnLow = false) (hc : s.clock = false) :
    execCoreClockReturns s = .next (State.uartBoundary { s with clock := true }) := by
  simp [execCoreClockReturns, h, hc, State.done]

/-- R137: at power-on no trigger line has an edge selection or a level seen. -/
theorem Line.map_powerOn (v : Vector Line 4) :
    v.map (fun _ => ({ sel := .off, seen := none } : Line)) = Vector.replicate 4 { sel := .off, seen := none } :=
  Vector.map_const' ..

/-! ### The stores of engines that stop -/

/-- The stop of an engine reads nothing of the link. -/
theorem State.stopEngine_setLink (s : State) (l : Link) (c : Fin 4) :
    State.stopEngine { s with link := l } c = { s.stopEngine c with link := l } := by
  have hpass : State.pass? { s with link := l } c = s.pass? c := rfl
  unfold State.stopEngine
  rw [hpass]
  cases s.pass? c with
  | none => rfl
  | some x =>
    have hstore : State.storeAtStop { s with link := l } x = { s.storeAtStop x with link := l } := by
      have heng : State.eng { s with link := l } x.chan = s.eng x.chan := rfl
      unfold State.storeAtStop
      rw [heng]
      cases (s.eng x.chan).storeWaiting <;> rfl
    dsimp only
    rw [hstore]; rfl

theorem State.stopAll_setLink (s : State) (l : Link) :
    State.stopAll { s with link := l } = { s.stopAll with link := l } := by
  simp only [State.stopAll, allChannels, List.foldl_cons, List.foldl_nil, State.stopEngine_setLink]

/-- R168: an engine with no byte to store leaves everything but itself. -/
theorem State.stopEngine_of_nothing_waiting {s : State} {c : Fin 4} (h : (s.eng c).storeWaiting = none) :
    s.stopEngine c = s.setEng c (s.eng c).release := by
  unfold State.stopEngine
  cases hx : s.pass? c with
  | none => rfl
  | some x =>
    obtain ⟨rfl, -⟩ := State.pass?_eq hx
    simp [State.storeAtStop, h]

theorem Engine.release_storeWaiting (e : Engine) : e.release.storeWaiting = none := rfl

/-- R168: with no byte to store anywhere the stop of every engine leaves memory. -/
theorem State.stopAll_mem_of_nothing_waiting {s : State} (h : ∀ c, (s.eng c).storeWaiting = none) :
    s.stopAll.mem = s.mem := by
  suffices ∀ (l : List (Fin 4)) (t : State), (∀ c, (t.eng c).storeWaiting = none) →
      (l.foldl State.stopEngine t).mem = t.mem from this _ s h
  intro l
  induction l with
  | nil => intros; rfl
  | cons c l ih =>
    intro t ht
    rw [List.foldl_cons, State.stopEngine_of_nothing_waiting (ht c), ih _ fun k => ?_]
    · rfl
    · rw [State.eng_setEng]
      split
      · exact Engine.release_storeWaiting _
      · exact ht k

/-! ### The RESET request -/

/-- R44, R46: the frame of the RESET answer, sent whole, makes the reset take effect. -/
theorem State.frameSent_reset {s : State} {p : Fin 4} (h : s.interp = .resetWait p) :
    s.frameSent (.answer (.place p)) = { s with
      link := .powerOn, interp := .idle, claim := none, rotation := 4, mem := s.stopAll.mem
      targets := Vector.replicate 16 .default, jobs := Vector.replicate 64 .free, timers := Vector.replicate 4 .powerOn
      lines := s.lines.map (fun l => { l with sel := .off }), arbs := Vector.replicate 4 .powerOn
      engs := Vector.replicate 4 .powerOn
      notices := { records := [.started .resetRequest], lost := 0, paused := false } } := by
  have hsent : s.frameSent (.answer (.place p)) = State.resetRequest { s with link := { s.link with
      tx := none, txClocks := 0, answers := s.link.answers.erase (.place p)
      places := s.link.places.set p.1 .empty p.2 } } := by
    simp [State.frameSent, State.freeAnswer, State.setPlace, h]
  rw [hsent, State.resetRequest_eq, State.stopAll_setLink]

theorem State.powerOn_values (s : State) : s.powerOn = { s with
    phase := .held, clearPos := 0, usPhase := 0, spi := { s.spi with ignored := false, slot := none }
    link := .powerOn, interp := .idle, mem := s.stopAll.mem, claim := none, rotation := 4
    targets := Vector.replicate 16 .default, jobs := Vector.replicate 64 .free, timers := Vector.replicate 4 .powerOn
    lines := Vector.replicate 4 { sel := .off, seen := none }, busySeen := Vector.replicate 4 none
    arbs := Vector.replicate 4 .powerOn, engs := Vector.replicate 4 .powerOn, notices := .powerOn } := by
  rw [State.powerOn_eq, Line.map_powerOn]

end Sys2Proof.Machine

namespace Sys2Proof
open Sys2Proof.Machine

/-- Settles O1: a step takes the command off the queue and gives it the rest. -/
theorem stepRunsFrontCommand : Obligations.StepRunsFrontCommand := fun _ _ => rfl

/-- Settles O14: each pin's equation begins with the forcing of R2. -/
theorem pinsWhileRstnLow : Obligations.PinsWhileRstnLow := by
  intro s h
  refine ⟨fun c l => ?_, fun c => ⟨?_, ?_, ?_⟩, State.attnActive_of_rstnLow h, ?_⟩
  · simp [State.selActive, State.forced, h]
  · simp [State.sckHigh, State.forced, h]
  · simp [State.sdoHigh, State.forced, h]
  · simp [State.stbHigh, State.forced, h]
  · simp [State.ltx, State.forced, h]

/-- Settles O15. -/
theorem powerOnValues : Obligations.PowerOnValues :=
  ⟨fun _ h hc => execRstnLow_running h hc, fun _ h hc => execRstnLow_stopped h hc, fun _ h => execRstnLow_of_low h,
    fun _ h hc => execCoreClockReturns_low h hc, State.powerOn_values⟩

/-- Settles O16. -/
theorem rstnRise : Obligations.RstnRise :=
  fun _ _ m a b h => ⟨fun hp hn => execRstnRise_held h hp hn m a b, fun hn => execRstnRise_short h hn m a b⟩

/-- Settles O18. -/
theorem coreClock : Obligations.CoreClock :=
  fun _ => ⟨rfl, execCoreClockReturns_running, fun hc h => execCoreClockReturns_high h hc⟩

/-- Settles O19: the answer's frame frees its place and then resets, and the engines' stores read nothing of the link. -/
theorem resetRequest : Obligations.ResetRequest := by
  refine ⟨fun s p r h hp => ?_, fun s p h => State.frameSent_reset h, fun s h => State.stopAll_mem_of_nothing_waiting h⟩
  exact State.serve_of_carries h (by rw [hp]; decide) _

end Sys2Proof
end

section
/-! SUPPORT. Frames and the receiver (R13 to R19): a whole frame, byte by byte, and what its CRC field decides. -/
namespace Sys2Proof.Machine

/-! ### The CRC and the layout of a frame -/

theorem Half.append_bytes (h : Half) : ((h >>> 8).setWidth 8 ++ h.setWidth 8 : BitVec 16) = h := by
  refine BitVec.eq_of_toNat_eq ?_
  have hlt := h.isLt
  rw [BitVec.toNat_append, BitVec.toNat_setWidth, BitVec.toNat_setWidth, BitVec.toNat_ushiftRight, Nat.shiftRight_eq_div_pow,
    Nat.mod_eq_of_lt (by omega), ← Nat.shiftLeft_add_eq_or_of_lt (by omega), Nat.shiftLeft_eq]
  omega

theorem crcOf_append (bs : List Byte) (b : Byte) : crcOf (bs ++ [b]) = crcByte (crcOf bs) b := by
  simp [crcOf]

/-- R13: SYNC, LEN, TAG, TYPE, the payload, and the CRC, low byte first. -/
theorem frameBytes_eq (tag typ : Byte) (p : List Byte) :
    frameBytes tag typ p = [0xA5, natByte p.length, tag, typ] ++ p ++
      [(crcOf (natByte p.length :: tag :: typ :: p)).setWidth 8,
        (crcOf (natByte p.length :: tag :: typ :: p) >>> 8).setWidth 8] := rfl

/-! ### The receiver, byte by byte -/

@[simp] theorem State.setRx_setRx (s : State) (a b : Receiver) : (s.setRx a).setRx b = s.setRx b := rfl

/-- The receiver after the header of a frame and `done` bytes of its payload. -/
def Receiver.inPayload (len tag typ : Byte) (done : List Byte) : Receiver :=
  { state := if done.length < len.toNat then .body else .check
    got := len :: tag :: typ :: done
    crc := crcOf (len :: tag :: typ :: done) }

/-- R15, R16: SYNC and a header with a permitted LEN lead to the payload, or to the CRC of an empty one. -/
theorem State.rxByte_header {s : State} (h : s.link.rx.state = .hunt) {len : Byte} (hlen : len.toNat ≤ 240) (tag typ : Byte) :
    [0xA5, len, tag, typ].foldl State.rxByte s = s.setRx (.inPayload len tag typ []) := by
  have hsync : s.rxByte 0xA5 = s.setRx { state := .header, got := [], crc := 0xFFFF } := by
    simp [State.rxByte, h, Config.sync]
  have hok : ¬ Config.maxPayload < len.toNat := Nat.not_lt.mpr hlen
  rw [List.foldl_cons, hsync]
  rcases Nat.eq_zero_or_pos len.toNat with hz | hpos
  · obtain rfl : len = 0 := BitVec.eq_of_toNat_eq hz
    simp [State.rxByte, State.setRx, byteAt, Receiver.inPayload, crcOf, Config.maxPayload]
  · have hz : ¬ len = 0#8 := by rintro rfl; exact absurd hpos (by decide)
    simp [State.rxByte, State.setRx, hz, hok, hpos, byteAt, Receiver.inPayload, crcOf]

/-- R16: a byte of the payload is taken in. -/
theorem State.rxByte_payload (s : State) {len : Byte} (tag typ b : Byte) {done : List Byte} (h : done.length < len.toNat) :
    (s.setRx (.inPayload len tag typ done)).rxByte b = s.setRx (.inPayload len tag typ (done ++ [b])) := by
  have hcrc : crcByte (crcOf (len :: tag :: typ :: done)) b = crcOf (len :: tag :: typ :: (done ++ [b])) :=
    (crcOf_append (len :: tag :: typ :: done) b).symm
  have hnext : (len :: tag :: typ :: (done ++ [b])).length < 3 + len.toNat ↔ (done ++ [b]).length < len.toNat := by
    simp only [List.length_cons]; omega
  simp [State.rxByte, State.setRx, Receiver.inPayload, h, Receiver.len, byteAt, hcrc]
  simp only [List.length_cons, List.length_append, List.length_nil] at hnext
  split_ifs <;> first | rfl | omega

theorem State.rxByte_payloads (s : State) {len : Byte} (tag typ : Byte) (p : List Byte) :
    ∀ done : List Byte, done.length + p.length ≤ len.toNat →
      p.foldl State.rxByte (s.setRx (.inPayload len tag typ done)) = s.setRx (.inPayload len tag typ (done ++ p)) := by
  induction p with
  | nil => intro done _; simp
  | cons b p ih =>
    intro done hle
    rw [List.length_cons] at hle
    rw [List.foldl_cons, State.rxByte_payload s tag typ b (by omega), ih _ (by rw [List.length_append]; simp; omega),
      List.append_assoc]
    rfl

/-- R17: the CRC field decides whether a whole payload is handed on. -/
theorem State.rxByte_crc (s : State) {len : Byte} (tag typ lo hi : Byte) {p : List Byte} (h : p.length = len.toNat) :
    [lo, hi].foldl State.rxByte (s.setRx (.inPayload len tag typ p)) =
      if (hi ++ lo : BitVec 16) = crcOf (len :: tag :: typ :: p)
      then (s.setRx .hunting).goodFrame tag typ p (hi ++ lo : BitVec 16)
      else { s with link := { s.link with rx := .hunting, checkFailures := satInc16 s.link.checkFailures } } := by
  have hget : byteAt (len :: tag :: typ :: (p ++ [lo])) (3 + len.toNat) = lo := by
    rw [byteAt, Nat.add_comm, ← h]; simp
  have hlo : (s.setRx (.inPayload len tag typ p)).rxByte lo = s.setRx { Receiver.inPayload len tag typ p with
      got := len :: tag :: typ :: (p ++ [lo]) } := by
    simp [State.rxByte, State.setRx, Receiver.inPayload, h, Receiver.len, byteAt]
    omega
  rw [List.foldl_cons, hlo, List.foldl_cons, List.foldl_nil]
  have hlong : ¬ (len :: tag :: typ :: (p ++ [lo]) ++ [hi]).length ≤ 3 + len.toNat + 1 := by
    simp only [List.length_append, List.length_cons, List.length_nil]; omega
  have hcheck : (s.setRx { Receiver.inPayload len tag typ p with got := len :: tag :: typ :: (p ++ [lo]) }).rxByte hi =
      (s.setRx { Receiver.inPayload len tag typ p with got := len :: tag :: typ :: (p ++ [lo]) }).checkFrame hi := by
    unfold State.rxByte
    simp only [State.setRx, Receiver.inPayload, h, lt_irrefl, if_false]
    exact if_neg hlong
  have htake : ((len :: tag :: typ :: (p ++ [lo])).drop 3).take len.toNat = p := by
    rw [← h]; simp
  rw [hcheck]
  have hfirst : byteAt (len :: tag :: typ :: (p ++ [lo])) 0 = len := rfl
  simp only [State.checkFrame, State.setRx, Receiver.inPayload, Receiver.len, hfirst, hget, htake]
  rfl

/-- R15 to R17: the bytes of a frame with any CRC field, passed to a receiver in HUNT. -/
theorem State.rxByte_frame {s : State} (h : s.link.rx.state = .hunt) (tag typ lo hi : Byte) {p : List Byte}
    (hp : p.length ≤ 240) :
    ([0xA5, natByte p.length, tag, typ] ++ p ++ [lo, hi]).foldl State.rxByte s =
      if (hi ++ lo : BitVec 16) = crcOf (natByte p.length :: tag :: typ :: p)
      then (s.setRx .hunting).goodFrame tag typ p (hi ++ lo : BitVec 16)
      else { s with link := { s.link with rx := .hunting, checkFailures := satInc16 s.link.checkFailures } } := by
  have hlen : (natByte p.length).toNat = p.length := natByte_toNat (by omega)
  rw [List.foldl_append, List.foldl_append, State.rxByte_header h (by omega),
    State.rxByte_payloads s tag typ p [] (by simp [hlen]), List.nil_append, State.rxByte_crc s tag typ lo hi hlen.symm]

/-! ### Acceptance -/

theorem State.freePlace_eq_none {s : State} : s.freePlace = none ↔ ∀ p, s.place p ≠ .empty := by
  have hall : ∀ p, p ∈ allChannels := by decide
  simp [State.freePlace, hall]

theorem State.duplicateOf_eq_some {s : State} {tag : Byte} {crc : Half} {e : Replay} :
    s.duplicateOf tag crc = some e ↔ s.link.replay = some e ∧ e.tag = tag ∧ e.crc = crc := by
  simp [State.duplicateOf, Option.filter_eq_some_iff]

theorem State.duplicateOf_eq_none {s : State} {tag : Byte} {crc : Half} :
    s.duplicateOf tag crc = none ↔ ∀ e, s.link.replay = some e → e.tag ≠ tag ∨ e.crc ≠ crc := by
  simp only [State.duplicateOf, Option.filter_eq_none_iff, Bool.and_eq_true, decide_eq_true_eq, not_and_or, ne_eq]

/-- R22: a frame that is no duplicate is accepted into a free place. -/
theorem State.goodFrame_accept {s : State} {tag : Byte} {crc : Half} {p : Fin 4} (h : s.duplicateOf tag crc = none)
    (hp : s.freePlace = some p) (typ : Byte) (payload : List Byte) :
    s.goodFrame tag typ payload crc = s.accept p tag typ payload crc := by
  simp only [State.goodFrame, h, hp]

theorem State.goodFrame_refuse {s : State} {tag : Byte} {crc : Half} (h : s.duplicateOf tag crc = none)
    (hp : s.freePlace = none) (typ : Byte) (payload : List Byte) :
    s.goodFrame tag typ payload crc = s.refuse tag typ := by
  simp only [State.goodFrame, h, hp]

theorem State.goodFrame_duplicate {s : State} {tag : Byte} {crc : Half} {e : Replay} (h : s.duplicateOf tag crc = some e)
    (typ : Byte) (payload : List Byte) : s.goodFrame tag typ payload crc = s.duplicate e tag typ := by
  simp only [State.goodFrame, h]

/-- R22, R23, R32, R42: what acceptance leaves. -/
theorem State.accept_eq (s : State) (p : Fin 4) (tag typ : Byte) (payload : List Byte) (crc : Half) :
    s.accept p tag typ payload crc = { s with
      link := { s.link with
        places := s.link.places.set p.1 (.request { tag := tag, typ := typ, payload := payload
                                                    claimHeld := decide (typ = 0x02) && s.claim.isSome }) p.2
        replay := some { tag := tag, crc := crc, place := p, answer := none }
        waiting := if s.interp = .idle then s.link.waiting else s.link.waiting ++ [p] }
      interp := if s.interp = .idle then .executing p .fresh else s.interp } := by
  unfold State.accept State.setPlace
  cases s.interp <;> simp

end Sys2Proof.Machine

namespace Sys2Proof
open Sys2Proof.Machine

/-- Settles O22. -/
theorem framesAndCrc : Obligations.FramesAndCrc := by
  refine ⟨by decide +kernel, fun crc bit => ?_, fun tag typ p => ⟨_, rfl, frameBytes_eq tag typ p, ?_⟩⟩
  · rw [crcBit, BitVec.msb_eq_getLsbD_last]
  · simp only [frameBytes_eq, List.length_append, List.length_cons, List.length_nil]; omega

/-- Settles O23: the two bytes of the CRC field make up the CRC. -/
theorem goodFrameIsReceived : Obligations.GoodFrameIsReceived := by
  intro s tag typ p h hp
  rw [frameBytes_eq, State.rxByte_frame h _ _ _ _ hp, Half.append_bytes, if_pos rfl]

/-- Settles O24. -/
theorem receiverErrors : Obligations.ReceiverErrors := by
  refine ⟨fun s tag typ lo hi p h hp hcrc => ?_, fun s b h hb => ?_, fun s b h hgot hb => ?_, fun _ => rfl, fun _ => rfl,
    satInc16_toNat⟩
  · rw [State.rxByte_frame h _ _ _ _ hp, if_neg hcrc]
  · simp only [State.rxByte, h]; exact if_neg hb
  · have hmax : Config.maxPayload < b.toNat := hb
    simp [State.rxByte, h, hgot, hmax]

/-- Settles O25. -/
theorem acceptanceReplayRefusal : Obligations.AcceptanceReplayRefusal := by
  intro s tag typ payload crc
  refine ⟨fun e he htag hcrc => ?_, fun hnew => ?_, fun h => ?_, fun h => ?_, fun p hp => State.place_of_freePlace hp,
    State.freePlace_eq_none⟩
  · have hdup := State.goodFrame_duplicate (State.duplicateOf_eq_some.mpr ⟨he, htag, hcrc⟩) typ payload
    refine ⟨fun ha => ?_, fun a p ha hp => ?_, fun a ha hp => ?_⟩ <;> rw [hdup] <;> simp only [State.duplicate, ha]
    · simp only [hp]; rfl
    · simp only [hp]
  · have hnone := State.duplicateOf_eq_none.mpr hnew
    exact ⟨fun p hp => by rw [State.goodFrame_accept hnone hp, State.accept_eq],
      fun hp => State.goodFrame_refuse hnone hp typ payload⟩
  · simp only [State.refuse, h]; rfl
  · obtain ⟨a, ha⟩ := Option.ne_none_iff_exists'.mp h
    simp only [State.refuse, ha]

/-- Settles O26. -/
theorem uartCharacters : Obligations.UartCharacters := by
  intro s b ht hspi
  refine ⟨?_, ?_, ?_⟩ <;> simp [exec, execUartCharacterComplete, execSilenceAbort, ht, hspi, State.done]

end Sys2Proof
end

section
/-! SUPPORT. The transmitter, the byte slots and the output pins (02, 08): what is on a pin at a place within a character or a
byte, and the choice at a frame boundary. -/
namespace Sys2Proof.Machine

/-- R201: a two-byte field, less significant byte first. -/
theorem natBytes_eq (n : Nat) : natBytes n = [BitVec.ofNat 8 n, BitVec.ofNat 8 (n / 256)] := by
  have hlow : (BitVec.ofNat 16 n).setWidth 8 = BitVec.ofNat 8 n := BitVec.eq_of_toNat_eq (by simp)
  have hhigh : (BitVec.ofNat 16 n >>> 8).setWidth 8 = BitVec.ofNat 8 (n / 256) :=
    BitVec.eq_of_toNat_eq (by simp [Nat.shiftRight_eq_div_pow]; omega)
  rw [natBytes, halfBytes, hlow, hhigh]

/-! ### The frame boundary -/

theorem State.frameBoundary_busy {s : State} (h : s.link.tx ≠ none) : s.frameBoundary = s := by
  obtain ⟨f, hf⟩ := Option.ne_none_iff_exists'.mp h
  simp only [State.frameBoundary, hf]

theorem State.frameBoundary_answer {s : State} {r : AnswerRef} {l : List AnswerRef} {a : Answer} (htx : s.link.tx = none)
    (hl : s.link.answers = r :: l) (ha : s.answerOf r = some a) : s.frameBoundary = s.startFrame (.answer r) a.frame := by
  simp only [State.frameBoundary, htx, hl, ha]

/-- R192: what the departure of the front record leaves, a NOTICE_LOST joining where records were lost. -/
theorem NoticeQueue.depart_eq {q : NoticeQueue} {n : Notice} {l : List Notice} (h : q.records = n :: l) :
    q.depart = { q with records := if q.lost = 0 then l else l ++ [.noticeLost q.lost], lost := 0 } := by
  unfold NoticeQueue.depart
  split_ifs with hlost <;> simp [h, hlost]

theorem State.frameBoundary_notice {s : State} {n : Notice} {l : List Notice} (htx : s.link.tx = none)
    (hl : s.link.answers = []) (hp : s.notices.paused = false) (hr : s.notices.records = n :: l) :
    s.frameBoundary = (s.startFrame .notice n.frame).setNotices { s.notices with
      records := if s.notices.lost = 0 then l else l ++ [.noticeLost s.notices.lost], lost := 0 } := by
  simp only [State.frameBoundary, htx, hl, hp, hr, NoticeQueue.depart_eq hr]

theorem State.frameBoundary_nothing {s : State} (hl : s.link.answers = [])
    (h : s.notices.paused = true ∨ s.notices.records = []) : s.frameBoundary = s := by
  cases htx : s.link.tx with
  | some f => exact State.frameBoundary_busy (by simp [htx])
  | none => rcases h with h | h <;> cases s.notices.paused <;> simp_all [State.frameBoundary]

theorem State.uartBoundary_eq (s : State) :
    s.uartBoundary = if s.timed = true ∧ s.straps.spi = false then s.frameBoundary else s := by
  simp [State.uartBoundary]

/-! ### Slots and sent bytes -/

theorem State.slotStart_running {s : State} (h : s.phase = .running) : s.slotStart = { s.frameBoundary with
    spi := { s.spi with slot := some (if s.frameBoundary.link.tx = none then .fill else .frameByte) } } := by
  obtain ⟨-, hspi, -⟩ := s.frameBoundary_link
  simp only [State.slotStart, h, if_true, hspi]
  cases s.frameBoundary.link.tx <;> rfl

theorem State.slotStart_fill {s : State} (h : s.phase ≠ .running) (htx : s.link.tx = none) :
    s.slotStart = { s with spi := { s.spi with slot := some .fill } } := by
  simp [State.slotStart, h, htx]

theorem State.frameSent_refusal (s : State) : s.frameSent (.answer .refusal) = { s with link := { s.link with
    tx := none, txClocks := 0, refusal := none, answers := s.link.answers.erase .refusal } } := by
  unfold State.frameSent
  cases s.interp <;> simp [State.freeAnswer]

theorem State.frameSent_place {s : State} {p : Fin 4} (h : s.interp ≠ .resetWait p) :
    s.frameSent (.answer (.place p)) = { s with link := { s.link with
      tx := none, txClocks := 0, places := s.link.places.set p.1 .empty p.2
      answers := s.link.answers.erase (.place p) } } := by
  unfold State.frameSent
  cases hi : s.interp with
  | resetWait q =>
    have hne : q ≠ p := by rintro rfl; exact h hi
    simp [State.freeAnswer, State.setPlace, hne]
  | idle => simp [State.freeAnswer, State.setPlace]
  | executing q w => simp [State.freeAnswer, State.setPlace]

/-! ### LTX -/

theorem State.ltx_uart {s : State} (hr : s.rstnLow = false) (hs : s.straps.spi = false) :
    s.ltx = match s.link.txByte with
      | some b => if s.uartHigh b then .high else .low
      | none => .high := by
  unfold State.ltx
  simp only [State.forced, hr, hs]
  rfl

/-- R10: the level at core clock h of bit time k: the start bit, a data bit, or the stop bit. -/
theorem State.uartHigh_eq {s : State} {n k h : Nat} (b : Byte) (hn : n = Config.uartBitClocks s.straps.br1 s.straps.br0)
    (hh : h < n) (hclk : s.link.txClocks + (n * k + h) = 10 * n) :
    s.uartHigh b = (decide (k ≠ 0) && (decide (9 ≤ k) || b.getLsbD (k - 1))) := by
  have hk : (s.straps.charClocks - s.link.txClocks) / n = k := by
    have hgone : s.straps.charClocks - s.link.txClocks = n * k + h := by rw [Straps.charClocks, ← hn]; omega
    rw [hgone, Nat.mul_add_div (by omega), Nat.div_eq_of_lt hh, Nat.add_zero]
  unfold State.uartHigh
  rw [← hn, hk]
  cases k with
  | zero => rfl
  | succ i => simp [Nat.succ_le_succ_iff]

/-! ### The channel pins -/

theorem Engine.selecting_iff (e : Engine) : e.selecting = true ↔ (e.state = .busyWait ∨ e.state = .shift ∨ e.state = .gap ∨
    e.state = .unitEnd ∨ e.state = .lag ∨ (e.state = .lead ∧ e.asserted = true)) := by
  unfold Engine.selecting
  cases e.state <;> simp

theorem State.selActive_iff {s : State} {c l : Fin 4} (h : s.rstnLow = false) :
    s.selActive c l = true ↔ (s.eng c).selecting = true ∧ (s.eng c).served.map selectOf = some l := by
  simp [State.selActive, State.forced, h]

/-- A select line is that of the served target. -/
theorem served_selectOf_iff {o : Option (Fin 16)} {l : Fin 4} :
    o.map selectOf = some l ↔ ∃ t, o = some t ∧ l.1 = t.1 % 4 := by
  simp [Option.map_eq_some_iff, selectOf, Fin.ext_iff, eq_comm]

theorem State.sckHigh_eq {s : State} {c : Fin 4} (h : s.rstnLow = false) :
    s.sckHigh c = ((s.eng c).restHigh ^^ (s.eng c).served.any (fun t => (s.eng c).sckAway (s.target t))) := by
  simp [State.sckHigh, State.forced, h]

theorem State.sdoHigh_eq {s : State} {c : Fin 4} (h : s.rstnLow = false) :
    s.sdoHigh c = (s.eng c).served.elim (s.eng c).sdo (fun t => (s.eng c).sdoLevel (s.target t)) := by
  simp [State.sdoHigh, State.forced, h]

theorem Profile.period_eq (p : Profile) : p.period = 2 * (p.divider.toNat + 1) := Nat.mul_comm _ _

theorem Engine.sckAway_of_ne_shift {e : Engine} (h : e.state ≠ .shift) (p : Profile) : e.sckAway p = false := by
  simp [Engine.sckAway, h]

theorem Engine.sdoLevel_of_ne_shift {e : Engine} (h : e.state ≠ .shift) (p : Profile) : e.sdoLevel p = e.sdo := by
  unfold Engine.sdoLevel
  split
  · exact absurd ‹e.state = .shift› h
  · rfl

theorem Engine.sdoLevel_of_not_held {e : Engine} (h : ∀ b, e.cur ≠ .held b) (p : Profile) : e.sdoLevel p = e.sdo := by
  unfold Engine.sdoLevel
  split
  · exact absurd ‹e.cur = .held _› (h _)
  · rfl

theorem Engine.sdoLevel_held {e : Engine} {b : Byte} (h : e.state = .shift) (hb : e.cur = .held b) (p : Profile) :
    e.sdoLevel p = match e.bitsOut p with
      | 0 => e.sdo
      | n + 1 => p.order.bitOut b n := by
  unfold Engine.sdoLevel
  rw [h, hb]
  cases e.bitsOut p <;> rfl

/-- R70: the bits put on SDO at core clock h of bit period k. -/
theorem Engine.bitsOut_eq {e : Engine} {p : Profile} {half k h : Nat} (hhalf : half = p.divider.toNat + 1) (hk : k < 8)
    (hh : h < 2 * half) (hclk : e.interval + (2 * half * k + h) = 8 * (2 * half)) :
    e.bitsOut p = if p.clockMode.1 % 2 = 0 ∨ half ≤ h then k + 1 else k := by
  have hperiod : p.period = 2 * half := by rw [Profile.period_eq, hhalf]
  have hgone : e.shiftClocks p = 2 * half * k + h := by rw [Engine.shiftClocks, hperiod]; omega
  have hpos : 0 < 2 * half := by omega
  unfold Engine.bitsOut
  rw [hgone, hperiod]
  by_cases hmode : p.clockMode.1 % 2 = 0
  · simp only [Profile.firstEdge, hmode, decide_true, if_true, true_or]
    rw [Nat.mul_add_div hpos, Nat.div_eq_of_lt hh]
    omega
  · simp only [Profile.firstEdge, hmode, decide_false, Bool.false_eq_true, if_false, false_or]
    rw [Nat.mul_div_cancel_left half (by norm_num : 0 < 2), Nat.add_assoc, Nat.mul_add_div hpos]
    split_ifs with hlate
    · rw [Nat.div_eq_of_lt_le (k := 1) (by omega) (by omega)]
    · rw [Nat.div_eq_of_lt (by omega), Nat.add_zero]

/-- R70: SCK is away from its rest level in the second half of a bit period. -/
theorem Engine.sckAway_eq {e : Engine} {p : Profile} {half k h : Nat} (hs : e.state = .shift)
    (hhalf : half = p.divider.toNat + 1) (hh : h < 2 * half) (hclk : e.interval + (2 * half * k + h) = 8 * (2 * half)) :
    e.sckAway p = decide (half ≤ h) := by
  have hperiod : p.period = 2 * half := by rw [Profile.period_eq, hhalf]
  have hgone : e.shiftClocks p = 2 * half * k + h := by rw [Engine.shiftClocks, hperiod]; omega
  simp only [Engine.sckAway, hs, decide_true, Bool.true_and]
  rw [hgone, hperiod, Nat.mul_add_mod, Nat.mod_eq_of_lt hh, Nat.mul_div_cancel_left half (by norm_num : 0 < 2)]

/-- At the end of the eighth period every bit has been put on SDO, and SCK rests. -/
theorem Engine.bitsOut_end {e : Engine} (h : e.interval = 0) (p : Profile) : e.bitsOut p = 8 := by
  have hpos : 0 < p.period := by rw [Profile.period_eq]; omega
  have hgone : e.shiftClocks p = p.period * 8 := by rw [Engine.shiftClocks, h]; omega
  unfold Engine.bitsOut
  rw [hgone]
  split
  · rw [Nat.mul_div_cancel_left _ hpos]; rfl
  · rw [Nat.mul_add_div hpos, Nat.div_eq_of_lt (by omega)]

theorem Engine.sckAway_end {e : Engine} (h : e.interval = 0) (p : Profile) : e.sckAway p = false := by
  have hhalf : 0 < p.period / 2 := by rw [Profile.period_eq]; omega
  have hgone : e.shiftClocks p = p.period * 8 := by rw [Engine.shiftClocks, h]; omega
  rw [Engine.sckAway, hgone, Nat.mul_mod_right]
  simp only [Nat.le_zero, Nat.ne_of_gt hhalf, decide_false, Bool.and_false]

end Sys2Proof.Machine

namespace Sys2Proof
open Sys2Proof.Machine

/-- Settles O21: each pin's equation read at the engine's state, and in SHIFT at the place that the interval's count gives. -/
theorem channelPins : Obligations.ChannelPins := by
  rintro s c _ hr rfl
  refine ⟨fun l => ?_, fun l k hl hk => ?_, ?_, fun h => ?_, ?_, fun _ h => ?_, ?_⟩
  · rw [State.selActive_iff hr, Engine.selecting_iff, served_selectOf_iff]
    exact ⟨fun ⟨h, t, ht, hl⟩ => ⟨t, ht, hl, h⟩, fun ⟨t, ht, hl, h⟩ => ⟨h, t, ht, hl⟩⟩
  · rw [State.selActive_iff hr] at hl hk
    exact Option.some.inj (hl.2.symm.trans hk.2)
  · simp [State.stbHigh, State.forced, hr]
  · rw [State.sckHigh_eq hr, State.sdoHigh_eq hr]
    cases (s.eng c).served <;> simp [Engine.sckAway_of_ne_shift h, Engine.sdoLevel_of_ne_shift h]
  · rintro t _ half k h hs ht rfl hhalf hk hh hclk
    refine ⟨?_, fun b bit hb hbit => ?_⟩
    · rw [State.sckHigh_eq hr, ht, Option.any_some, Engine.sckAway_eq hs hhalf hh hclk]
    · have hout : ∀ i, (s.target t).order.bitOut b i = bit i := fun i => (hbit i).symm
      rw [State.sdoHigh_eq hr, ht, Option.elim_some, Engine.sdoLevel_held hs hb, Engine.bitsOut_eq hhalf hk hh hclk]
      split_ifs <;> cases k <;> simp_all
  · rw [State.sdoHigh_eq hr]
    cases (s.eng c).served <;> simp [Engine.sdoLevel_of_not_held h]
  · intro t b hs ht hi hb
    rw [State.sckHigh_eq hr, State.sdoHigh_eq hr, ht, Option.any_some, Option.elim_some, Engine.sckAway_end hi,
      Engine.sdoLevel_held hs hb, Engine.bitsOut_end hi]
    exact ⟨Bool.xor_false _, rfl⟩

/-- Settles O27. -/
theorem lselnEdges : Obligations.LselnEdges := by
  refine ⟨fun s h => ?_, fun s h => ?_, fun s h => ?_, fun s h => ?_, fun s h => State.slotStart_running h,
    fun s h htx => State.slotStart_fill h htx⟩
  · simp [exec, execLselnFall, h, and_assoc]
  · simp [exec, execLselnFall, h]
  · simp [exec, execLselnRise, h]
  · simp [exec, execLselnRise, h]

/-- Settles O28. -/
theorem spiBytes : Obligations.SpiBytes := by
  refine ⟨fun s b k hk hspi hr => ⟨fun hp => ?_, fun f hp => ?_⟩, fun s b f h => ?_⟩
  · cases k <;> exact ⟨by simp [exec, execSpiByteComplete, hk, hspi, hr, hp, State.slotSent],
      by simp [exec, execSpiByteComplete, hk, hspi, hr, hp, State.slotSent]⟩
  · simp [exec, execSpiByteComplete, hk, hspi, hr, hp]
  · simp [exec, execSpiByteComplete, h]

/-- Settles O29. -/
theorem uartByteSent : Obligations.UartByteSent := by
  refine ⟨fun s hr hs hb => ?_, fun s b n k h hr hs hb hn hk hh hclk => ?_, fun s ht hs => ?_, fun s h => ?_,
    fun s f hf hlt => ?_, fun s f hf hle => ?_, fun s => rfl, State.frameSent_refusal, fun s p h => State.frameSent_place h⟩
  · simp only [State.ltx_uart hr hs, hb]
  · simp only [State.ltx_uart hr hs, hb, State.uartHigh_eq b hn hh hclk]
    generalize b.getLsbD (k - 1) = level
    have hdata : k < 9 ↔ ¬ 9 ≤ k := Nat.not_le.symm
    by_cases hstart : k = 0 <;> by_cases hstop : 9 ≤ k <;> cases level <;> simp [hstart, hstop, hdata]
  · simp [exec, execUartByteSent, ht, hs, State.done]
  · simp only [State.txByteSent, h]
  · simp only [State.txByteSent, hf, hlt, if_true]
  · simp only [State.txByteSent, hf, Nat.not_lt.mpr hle, if_false]

/-- Settles O30. -/
theorem frameBoundaryChoice : Obligations.FrameBoundaryChoice := by
  refine ⟨fun s h => State.frameBoundary_busy h, fun s r l a htx hl ha => State.frameBoundary_answer htx hl ha,
    fun s n l htx hl hp hr => State.frameBoundary_notice htx hl hp hr, fun s hl h => State.frameBoundary_nothing hl h,
    State.uartBoundary_eq, fun s p r a h => ?_, fun s => rfl, ⟨rfl, rfl⟩, fun j e merged poll progress => ?_,
    fun j c f progress => ?_, fun j i => rfl, fun n => rfl⟩
  · rcases h with h | h <;> simp only [State.answerOf, h]
  · cases e <;> simp only [Notice.bytes, natBytes_eq] <;> rfl
  · cases f <;> simp only [Notice.bytes, natBytes_eq] <;> rfl

end Sys2Proof
end

section
/-! SUPPORT. Start-up, and the requests on the part as a whole (01, 03): flags in a payload, the RUNNING job and the ready queue
of a channel. -/
namespace Sys2Proof.Machine

/-! ### Flag bytes (R201) -/

theorem flagOf_eq_none {b : Byte} (h : 2 ≤ b.toNat) : flagOf b = none := by
  have hzero : b ≠ 0 := by rintro rfl; exact absurd h (by decide)
  have hone : b ≠ 1 := by rintro rfl; exact absurd h (by decide)
  rw [flagOf, if_neg hzero, if_neg hone]

theorem Byte.eq_zero_or_one {b : Byte} (h : b.toNat < 2) : b = 0 ∨ b = 1 := by
  have hcases : b.toNat = 0 ∨ b.toNat = 1 := by omega
  exact hcases.imp (fun e => BitVec.eq_of_toNat_eq e) (fun e => BitVec.eq_of_toNat_eq e)

theorem flagOf_eq_some {b : Byte} (h : b.toNat < 2) : flagOf b = some (decide (b = 1)) := by
  rcases Byte.eq_zero_or_one h with rfl | rfl <;> rfl

theorem flagByte_decide {b : Byte} (h : b.toNat < 2) : flagByte (decide (b = 1)) = b := by
  rcases Byte.eq_zero_or_one h with rfl | rfl <;> rfl

/-! ### The jobs of a channel -/

/-- R83: a RUNNING job on the channel is the engine's. -/
theorem State.Coherent.job_of_running {s : State} (h : s.Coherent) {c : Fin 4} {j : Fin 64} (hc : s.onChannel c j = true)
    (hr : (s.job j).rt.state = .running) : (s.eng c).job = some j := by
  obtain ⟨b, hb⟩ := h.running j hr
  obtain rfl := State.onChannel_unique (h.engineJob b j hb).1 hc
  exact hb

/-- R41: the RUNNING job of a channel is its engine's job. -/
theorem State.Coherent.runningJob_eq {s : State} (h : s.Coherent) (c : Fin 4) : s.runningJob c = (s.eng c).job := by
  unfold State.runningJob
  cases hf : allJobs.find? (fun j => s.onChannel c j && decide ((s.job j).rt.state = .running)) with
  | some j =>
    have hj := List.find?_some hf
    simp only [Bool.and_eq_true, decide_eq_true_eq] at hj
    exact (h.job_of_running hj.1 hj.2).symm
  | none =>
    cases he : (s.eng c).job with
    | none => rfl
    | some j =>
      obtain ⟨hon, hrun⟩ := h.engineJob c j he
      exact absurd (List.find?_eq_none.mp hf j (mem_allJobs j)) (by simp [hon, hrun])

theorem State.Coherent.runningJob_eq_some {s : State} (h : s.Coherent) {c : Fin 4} {j : Fin 64} :
    s.runningJob c = some j ↔ s.onChannel c j = true ∧ (s.job j).rt.state = .running := by
  rw [h.runningJob_eq]
  exact ⟨fun he => h.engineJob c j he, fun ⟨hc, hr⟩ => h.job_of_running hc hr⟩

/-! ### Start-up -/

/-- R5, R7: the state at the end of start-up, before the frame boundary of an idle UART transmitter. -/
def State.startedUp (s : State) (trg busy : BitVec 4) : State :=
  { s.firstLevels trg busy with
    phase := .running, clearPos := 0, mem := [], link := { s.link with rx := .hunting }
    notices := s.notices.hand (.started .power) }

theorem execStartUpClearComplete_of {s : State} (hp : s.phase = .startUp) (hr : s.rstnLow = false) (hc : s.clock = true)
    (trg busy : BitVec 4) : execStartUpClearComplete trg busy s = .next (s.startedUp trg busy).uartBoundary := by
  simp [execStartUpClearComplete, hp, hr, hc, State.done]
  rfl

theorem State.firstLevels_line (s : State) (trg busy : BitVec 4) (n : Fin 4) :
    (s.firstLevels trg busy).line n = { s.line n with seen := some (trg.getLsbD n.1) } := by
  match n with
  | 0 | 1 | 2 | 3 => rfl

theorem State.firstLevels_busyLevel (s : State) (trg busy : BitVec 4) (n : Fin 4) :
    (s.firstLevels trg busy).busyLevel n = some (busy.getLsbD n.1) := by
  match n with
  | 0 | 1 | 2 | 3 => rfl

/-- R7, R27: from power-on values STARTED waits in SPI mode, and its frame is in progress in UART mode. -/
theorem State.startedUp_boundary {s : State} (hl : s.link = .powerOn) (hn : s.notices = .powerOn) (hr : s.rstnLow = false)
    (hc : s.clock = true) (trg busy : BitVec 4) :
    (s.startedUp trg busy).uartBoundary = if s.straps.spi = true then s.startedUp trg busy
      else ((s.startedUp trg busy).startFrame .notice (Notice.frame (.started .power))).setNotices
        { records := [], lost := 0, paused := false } := by
  have htimed : (s.startedUp trg busy).timed = true := by
    simp [State.timed, State.live, State.startedUp, State.firstLevels, hr, hc]
  have hspi : (s.startedUp trg busy).straps.spi = s.straps.spi := rfl
  have hnotices : (s.startedUp trg busy).notices = { records := [.started .power], lost := 0, paused := false } := by
    simp only [State.startedUp, hn]; rfl
  have hlink : (s.startedUp trg busy).link = .powerOn := by simp only [State.startedUp, hl]; rfl
  rw [State.uartBoundary_eq, htimed, hspi]
  cases s.straps.spi with
  | true => rfl
  | false =>
    rw [if_pos ⟨rfl, rfl⟩, if_neg (by simp), State.frameBoundary_notice (n := .started .power) (l := []) (by rw [hlink]; rfl)
      (by rw [hlink]; rfl) (by rw [hnotices]) (by rw [hnotices]), hnotices]
    rfl

end Sys2Proof.Machine

namespace Sys2Proof
open Sys2Proof.Machine

/-- Settles O17. -/
theorem startUpClearComplete : Obligations.StartUpClearComplete := by
  intro s trg busy hp hr hc
  refine ⟨execStartUpClearComplete_of hp hr hc trg busy, fun a => rfl, s.firstLevels_line trg busy,
    s.firstLevels_busyLevel trg busy, rfl, fun hl hn => ⟨_, execStartUpClearComplete_of hp hr hc trg busy, ?_⟩⟩
  rw [State.startedUp_boundary hl hn hr hc]
  have hlow : (s.startedUp trg busy).rstnLow = false := hr
  cases hs : s.straps.spi with
  | true =>
    rw [if_pos rfl]
    have hnotices : (s.startedUp trg busy).notices = { records := [.started .power], lost := 0, paused := false } := by
      simp only [State.startedUp, hn]; rfl
    have htx : (s.startedUp trg busy).link.tx = none := by simp only [State.startedUp, hl]; rfl
    refine ⟨(State.attnActive_iff_of_rstnHigh hlow).mpr (.inr (.inl ?_)), fun _ => ⟨by rw [hnotices], htx⟩, fun h => absurd h (by simp)⟩
    rw [hnotices]
    exact ⟨by simp, rfl⟩
  | false =>
    rw [if_neg (by simp)]
    have hlow' : (((s.startedUp trg busy).startFrame .notice (Notice.frame (.started .power))).setNotices
        { records := [], lost := 0, paused := false }).rstnLow = false := hlow
    exact ⟨(State.attnActive_iff_of_rstnHigh hlow').mpr (.inr (.inr (by simp [State.startFrame]))),
      fun h => absurd h (by simp), fun _ => ⟨rfl, rfl⟩⟩

/-- Settles O33. -/
theorem identify : Obligations.Identify := by
  intro s p r h hp
  have hbaud : flagByte s.straps.br1 * 2 + flagByte s.straps.br0 = match s.straps.br1, s.straps.br0 with
      | false, false => 0
      | false, true => 1
      | true, false => 2
      | true, true => 3 := by cases s.straps.br1 <;> cases s.straps.br0 <;> rfl
  refine (State.serve_of_carries h (by rw [hp]; decide) _).trans ?_
  rw [State.reply_eq, State.identity, hbaud]
  rfl

/-- Settles O34. -/
theorem status : Obligations.Status := by
  intro s p r b h hp
  have hserve := State.serve_of_carries h (by rw [hp]; rfl)
    fun p r => match flagOf (byteAt r.payload 0) with
      | none => s.reply p r .badArg []
      | some clear => (if clear then s.clearCounters else s).reply p r .ok (s.statusBytes r.claimHeld)
  have hb : byteAt r.payload 0 = b := by rw [hp]; rfl
  refine ⟨fun h2 => hserve.trans ?_, ?_, ?_, fun held => rfl, fun c j hcoh => hcoh.runningJob_eq_some,
    fun c j => State.mem_readyQueue⟩
  · simp only [hb, flagOf_eq_none h2, State.reply_eq]
  · rintro rfl
    refine hserve.trans ?_
    simp only [hb, State.reply_eq]; rfl
  · rintro rfl
    refine hserve.trans ?_
    simp only [hb, State.reply_eq]; rfl

/-- Settles O35. -/
theorem noticeControl : Obligations.NoticeControl := by
  intro s p r b h hp
  have hb : byteAt r.payload 0 = b := by rw [hp]; rfl
  have hserve := State.serve_of_carries h (by rw [hp]; rfl)
    fun p r => match flagOf (byteAt r.payload 0) with
      | none => s.reply p r .badArg []
      | some b => (s.setNotices { s.notices with paused := b }).reply p r .ok
          [flagByte b, natByte s.notices.records.length, s.notices.lost]
  refine ⟨fun h2 => hserve.trans ?_, fun h2 => hserve.trans ?_⟩
  · simp only [hb, flagOf_eq_none h2, State.reply_eq]
  · simp only [hb, flagOf_eq_some h2, flagByte_decide h2, State.reply_eq]; rfl

end Sys2Proof
end

section
/-! SUPPORT. The layouts of profiles and job definitions (12, R201, R203): each field is read back from the byte it is written
as, and what a payload that is taken says of its bytes. -/
namespace Sys2Proof.Machine

/-! ### Fields -/

theorem finOf_eq_some {n : Nat} {b : Byte} {j : Fin n} : finOf n b = some j ↔ b.toNat = j.1 := by
  refine ⟨fun h => ?_, finOf_of⟩
  unfold finOf at h
  split at h
  · cases h; rfl
  · cases h

theorem toNat_eq_iff_natByte {b : Byte} {n : Nat} (h : n < 256) : b.toNat = n ↔ b = natByte n :=
  ⟨fun e => BitVec.eq_of_toNat_eq (e.trans (natByte_toNat h).symm), fun e => e ▸ natByte_toNat h⟩

/-- R201: a number below n, n at most 256, is read from the byte it is written as, and from no other. -/
theorem finOf_eq_some_iff {n : Nat} (hn : n ≤ 256) {b : Byte} {j : Fin n} : finOf n b = some j ↔ b = natByte j.1 :=
  finOf_eq_some.trans (toNat_eq_iff_natByte (by omega))

theorem flagOf_eq_some_iff {b : Byte} {x : Bool} : flagOf b = some x ↔ b = flagByte x := by
  constructor
  · unfold flagOf
    split_ifs with h0 h1 <;> rintro ⟨⟩ <;> assumption
  · rintro rfl; cases x <;> rfl

theorem BitOrder.ofByte_eq_some_iff {b : Byte} {x : BitOrder} : BitOrder.ofByte b = some x ↔ b = x.code := by
  constructor
  · unfold BitOrder.ofByte
    split_ifs <;> rintro ⟨⟩ <;> assumption
  · rintro rfl; cases x <;> rfl

theorem BusyMode.ofByte_eq_some_iff {b : Byte} {x : BusyMode} : BusyMode.ofByte b = some x ↔ b = x.code := by
  constructor
  · unfold BusyMode.ofByte
    split_ifs <;> rintro ⟨⟩ <;> assumption
  · rintro rfl; cases x <;> rfl

theorem EdgeSel.ofByte_eq_some_iff {b : Byte} {x : EdgeSel} : EdgeSel.ofByte b = some x ↔ b = x.code := by
  constructor
  · unfold EdgeSel.ofByte
    split_ifs <;> rintro ⟨⟩ <;> assumption
  · rintro rfl; cases x <;> rfl

/-- R201: a two-byte field is its two bytes, less significant first. -/
theorem Half.eq_append_iff {h : Half} {lo hi : Byte} :
    (hi ++ lo : BitVec 16) = h ↔ lo = h.setWidth 8 ∧ hi = (h >>> 8).setWidth 8 := by
  constructor
  · rintro rfl
    have hlo := lo.isLt
    have hhi := hi.isLt
    have hval : (hi ++ lo : BitVec 16).toNat = hi.toNat * 256 + lo.toNat := by
      rw [BitVec.toNat_append, ← Nat.shiftLeft_add_eq_or_of_lt hlo, Nat.shiftLeft_eq]
    refine ⟨BitVec.eq_of_toNat_eq ?_, BitVec.eq_of_toNat_eq ?_⟩
    · rw [BitVec.toNat_setWidth, hval]; omega
    · rw [BitVec.toNat_setWidth, BitVec.toNat_ushiftRight, hval, Nat.shiftRight_eq_div_pow]; omega
  · rintro ⟨rfl, rfl⟩; exact Half.append_bytes h

theorem Half.append_toNat (lo hi : Byte) : (hi ++ lo : BitVec 16).toNat = lo.toNat + 256 * hi.toNat := by
  have hlo := lo.isLt
  rw [BitVec.toNat_append, ← Nat.shiftLeft_add_eq_or_of_lt hlo, Nat.shiftLeft_eq]
  omega

/-! ### Profiles -/

theorem Profile.lawful_iff (f : Profile) : f.lawful = true ↔
    ¬ (f.unit = 0 ∨ 16 < f.unit ∨ f.timeout = 0 ∨ (f.slipCheck = true ∧ f.busy = .off)) := by
  simp only [Profile.lawful, Bool.and_eq_true, Bool.or_eq_true, Bool.not_eq_true', decide_eq_true_eq, not_or, not_and,
    Nat.one_le_iff_ne_zero, Nat.not_lt, ne_eq, and_assoc]
  cases f.slipCheck <;> simp

/-- R77: what a profile is read as: each field from its bytes, in range. -/
theorem parseProfile_eq_some {p : List Byte} {f : Profile} : parseProfile p = some f ↔
    f.lawful = true ∧ byteAt p 1 = f.divider ∧ byteAt p 2 = natByte f.clockMode.1 ∧ byteAt p 3 = f.order.code ∧
      byteAt p 4 = f.lead ∧ byteAt p 5 = f.lag ∧ byteAt p 6 = f.gap ∧ (byteAt p 7).toNat = f.unit ∧
      byteAt p 8 = f.busy.code ∧ halfAt p 9 = f.timeout ∧ byteAt p 11 = flagByte f.strobe ∧
      byteAt p 12 = flagByte f.slipCheck := by
  simp only [parseProfile, Option.bind_eq_bind, Option.bind_eq_some_iff, finOf_eq_some_iff (by norm_num : 4 ≤ 256),
    BitOrder.ofByte_eq_some_iff, BusyMode.ofByte_eq_some_iff, flagOf_eq_some_iff]
  constructor
  · rintro ⟨mode, hmode, order, horder, busy, hbusy, strobe, hstrobe, slip, hslip, h⟩
    split_ifs at h with hrange
    obtain rfl := Option.some.inj h
    exact ⟨(Profile.lawful_iff _).mpr hrange, rfl, hmode, horder, rfl, rfl, rfl, rfl, hbusy, rfl, hstrobe, hslip⟩
  · rintro ⟨hlawful, hdivider, hmode, horder, hlead, hlag, hgap, hunit, hbusy, htimeout, hstrobe, hslip⟩
    refine ⟨_, hmode, _, horder, _, hbusy, _, hstrobe, _, hslip, ?_⟩
    rw [hdivider, hlead, hlag, hgap, hunit, htimeout, if_neg ((Profile.lawful_iff f).mp hlawful)]

theorem drop_one_of_length {p : List Byte} (h : p.length = 13) : p.drop 1 =
    [byteAt p 1, byteAt p 2, byteAt p 3, byteAt p 4, byteAt p 5, byteAt p 6, byteAt p 7, byteAt p 8, byteAt p 9,
      byteAt p 10, byteAt p 11, byteAt p 12] := by
  match p, h with
  | [_, _, _, _, _, _, _, _, _, _, _, _, _], _ => rfl

theorem Profile.bytes_eq (f : Profile) : f.bytes =
    [f.divider, natByte f.clockMode.1, f.order.code, f.lead, f.lag, f.gap, natByte f.unit, f.busy.code,
      f.timeout.setWidth 8, (f.timeout >>> 8).setWidth 8, flagByte f.strobe, flagByte f.slipCheck] := rfl

/-- R77, R203: a payload is read as the lawful profile that has its bytes. -/
theorem parseProfile_iff_bytes {p : List Byte} {f : Profile} (h : p.length = 13) :
    parseProfile p = some f ↔ f.lawful = true ∧ p.drop 1 = f.bytes := by
  rw [parseProfile_eq_some]
  refine and_congr_right fun hlawful => ?_
  have hunit : f.unit < 256 := by have := (Profile.lawful_iff f).mp hlawful; omega
  rw [toNat_eq_iff_natByte hunit, halfAt, Half.eq_append_iff, drop_one_of_length h, Profile.bytes_eq]
  simp only [List.cons.injEq, and_true, and_assoc]

end Sys2Proof.Machine

namespace Sys2Proof
open Sys2Proof.Machine

/-- Settles O37. -/
theorem profileCoding : Obligations.ProfileCoding := by
  refine ⟨fun p f h => parseProfile_iff_bytes h, fun f => ?_⟩
  rw [Profile.bytes_eq]
  cases f.order <;> cases f.busy <;> rfl

/-- A JOB_DEFINE payload for a SEND of four bytes from 0100h to target 1, with trigger source code 55h, which R201 does not
have. -/
def strangeSource : List Byte := [5, 1, 0, 0, 0, 1, 4, 0, 0, 0, 0, 0, 0, 0, 0, 0x55, 0xFF, 0xFF, 0, 0, 0, 0, 0, 0]

/-- The definition that the model takes it as: the last branch of `TrigSource.ofByte` is the trigger source `none`, where the
absence of a source was meant. -/
def strangeSourceTaken : JobDef :=
  { target := 1, kind := .send, cls := .normal, winA := { start := 0x100, len := 4 }, winB := none, fill := 0, segment := 0
    source := .none, success := none, failure := none, notify := false, pollMask := 0, pollMatch := 0, retryLimit := 0
    interval := 0 }

theorem parseJobDef_strangeSource : parseJobDef strangeSource = some strangeSourceTaken := by decide +kernel

theorem bytes_strangeSourceTaken : strangeSourceTaken.bytes ≠ keptDefinition strangeSource := by decide +kernel

/-- Refutes O45: a JOB_DEFINE payload with a trigger source code outside R201 is taken, and as a definition whose source byte is
00h, so that its bytes are not the payload's. -/
theorem not_jobDefinitionCoding : ¬ Obligations.JobDefinitionCoding := by
  rintro ⟨hparse, -⟩
  obtain ⟨-, hbytes⟩ := (hparse strangeSource strangeSourceTaken rfl).mp parseJobDef_strangeSource
  exact bytes_strangeSourceTaken hbytes

end Sys2Proof
end

section
/-! SUPPORT. The requests on targets, memory and jobs (03 to 06): what each answers in each case that the manual tells apart. -/
namespace Sys2Proof.Machine

/-- A request whose payload is one job number is carried out on that job. -/
theorem State.serveJob_number {s : State} {code : Byte} {p : Fin 4} {r : Request} {j : Fin 64} (h : s.carries code p r)
    (hcode : permittedLen code 1 = true) (hp : r.payload = [natByte j.1]) (body : Fin 4 → Request → Fin 64 → State) :
    s.serveJob code body = .next (body p r j).uartBoundary := by
  have hnum : (byteAt r.payload 0).toNat = j.1 := by rw [hp]; exact natByte_toNat (by omega)
  exact State.serveJob_of_carries h (by rw [hp]; exact hcode) hnum body

theorem JobState.inUse_iff (st : JobState) : st.inUse = true ↔ st = .running ∨ st = .suspended := by
  cases st <;> simp [JobState.inUse]

/-! ### Targets -/

theorem State.targetInUse_iff {s : State} {n : Fin 16} : s.targetInUse n = true ↔
    ∃ j d, (s.job j).defn = some d ∧ d.target = n ∧ ((s.job j).rt.state = .running ∨ (s.job j).rt.state = .suspended) := by
  simp only [State.targetInUse, List.any_eq_true, mem_allJobs, true_and, Bool.and_eq_true, decide_eq_true_eq,
    JobState.inUse_iff, Option.map_eq_some_iff]
  exact exists_congr fun j => ⟨fun ⟨hu, d, hd, ht⟩ => ⟨d, hd, ht, hu⟩, fun ⟨d, hd, ht, hu⟩ => ⟨hu, d, hd, ht⟩⟩

theorem State.targetInUse_eq_false {s : State} {n : Fin 16}
    (h : ∀ j d, (s.job j).defn = some d → d.target = n → (s.job j).rt.state ≠ .running ∧ (s.job j).rt.state ≠ .suspended) :
    s.targetInUse n = false := by
  refine Bool.eq_false_iff.mpr fun hu => ?_
  obtain ⟨j, d, hd, ht, hs⟩ := State.targetInUse_iff.mp hu
  obtain ⟨hrun, hsus⟩ := h j d hd ht
  exact hs.elim hrun hsus

/-! ### Windows in use -/

theorem activeWindow_eq (d : JobDef) (sel : WinSel) :
    activeWindow d sel = match sel, d.winB with | .b, some w => w | _, _ => d.winA := by
  unfold activeWindow
  cases sel <;> cases d.winB <;> rfl

/-- R55, R60: the windows of a pass, by the kind of the job. -/
theorem mem_passWindows {d : JobDef} {sel : WinSel} {v : Window} : v ∈ passWindows d sel ↔
    match d.kind with
    | .send | .receive => v = (match sel, d.winB with | .b, some w => w | _, _ => d.winA)
    | .poll => v = d.winA
    | .exchange => v = d.winA ∨ d.winB = some v := by
  unfold passWindows
  cases d.kind <;> simp [activeWindow_eq]

theorem State.windowsOf_eq {s : State} {j : Fin 64} {d : JobDef} (h : (s.job j).defn = some d) :
    s.windowsOf j = passWindows d (s.job j).rt.active := by
  simp only [State.windowsOf, h]

/-- R55: a window in use is one of the pass windows of a RUNNING or SUSPENDED job. -/
theorem State.mem_windowsInUse_iff {s : State} {v : Window} : v ∈ s.windowsInUse ↔
    ∃ j d, (s.job j).defn = some d ∧ ((s.job j).rt.state = .running ∨ (s.job j).rt.state = .suspended) ∧
      v ∈ passWindows d (s.job j).rt.active := by
  simp only [State.mem_windowsInUse, JobState.inUse_iff]
  refine exists_congr fun j => ?_
  cases hd : (s.job j).defn with
  | none => simp [State.windowsOf, hd]
  | some d => simp [State.windowsOf_eq hd]

theorem Window.inBounds_iff {w : Window} :
    w.inBounds = true ↔ w.start < 8192 ∧ 1 ≤ w.len ∧ w.start + w.len ≤ 8192 := by
  simp only [Window.inBounds, Bool.and_eq_true, decide_eq_true_eq, and_assoc]; rfl

theorem JobDef.inBounds_of_lawful {d : JobDef} (h : d.lawful = true) :
    d.winA.inBounds = true ∧ ∀ w, d.winB = some w → w.inBounds = true := by
  simp only [JobDef.lawful, Bool.and_eq_true] at h
  obtain ⟨⟨⟨hA, hB⟩, -⟩, -⟩ := h
  exact ⟨hA, fun w hw => by simpa [hw] using hB⟩

/-- R86: every window of a pass of a lawful job lies in buffer memory and holds a byte. -/
theorem JobDef.inBounds_of_mem {d : JobDef} (h : d.lawful = true) {sel : WinSel} {v : Window}
    (hv : v ∈ passWindows d sel) : v.inBounds = true := by
  obtain ⟨hA, hB⟩ := JobDef.inBounds_of_lawful h
  have hactive : (activeWindow d sel).inBounds = true := by
    unfold activeWindow
    split
    · exact hB _ ‹_›
    · exact hA
  unfold passWindows at hv
  cases hk : d.kind <;> simp only [hk, List.mem_cons, List.not_mem_nil, or_false, Option.mem_toList] at hv
  · rw [hv]; exact hactive
  · rw [hv]; exact hactive
  · rcases hv with rfl | hw
    · exact hA
    · exact hB _ hw
  · rw [hv]; exact hA

theorem State.inBounds_of_inUse {s : State} (h : s.definitionsLawful) {v : Window} (hv : v ∈ s.windowsInUse) :
    v.inBounds = true := by
  obtain ⟨j, d, hd, -, hmem⟩ := State.mem_windowsInUse_iff.mp hv
  exact JobDef.inBounds_of_mem (h j d hd) hmem

/-- R54: two windows that hold bytes overlap exactly when some address lies in both. -/
theorem Window.overlaps_iff {v w : Window} (hv : 1 ≤ v.len) (hw : 1 ≤ w.len) : v.overlaps w = true ↔
    ∃ b, w.start ≤ b ∧ b < w.start + w.len ∧ v.start ≤ b ∧ b < v.start + v.len := by
  simp only [Window.overlaps, Bool.and_eq_true, decide_eq_true_eq]
  refine ⟨fun h => ⟨max v.start w.start, ?_⟩, fun ⟨b, h⟩ => ?_⟩ <;> omega

/-! ### Ranges of memory -/

theorem inMemory_iff {a n : Nat} : inMemory a n = true ↔ a ≤ 8191 ∧ a + n ≤ 8192 := by
  have hsize : Config.memSize = 8192 := rfl
  rw [inMemory, Bool.and_eq_true, decide_eq_true_eq, decide_eq_true_eq, hsize]
  omega

theorem inMemory_eq_false {a n : Nat} (h : 8191 < a ∨ 8192 < a + n) : inMemory a n = false := by
  refine Bool.eq_false_iff.mpr fun hin => ?_
  rw [inMemory_iff] at hin
  omega

/-- R56, R57: MEM_WRITE by its two checks. -/
theorem execMemWrite_of_carries {s : State} {p : Fin 4} {r : Request} {lo hi : Byte} {data : List Byte} {a : Nat}
    (h : s.carries 0x18 p r) (hp : r.payload = lo :: hi :: data) (h1 : 1 ≤ data.length) (h2 : data.length ≤ 238)
    (ha : a = lo.toNat + 256 * hi.toNat) : exec .memWrite s = .next
      (if inMemory a data.length = false then s.answered p r .badArg []
        else if s.windowsInUse.any (Window.overlaps { start := a, len := data.length }) = true
          then s.answered p r .windowBusy []
        else { s with
          claim := some { start := a, len := data.length }, interp := .executing p (.writing a data 0) }).uartBoundary := by
  have hlen : permittedLen 0x18 r.payload.length = true := by
    rw [hp, List.length_cons, List.length_cons]; simp [permittedLen]; omega
  have haddr : (halfAt r.payload 0).toNat = a := by
    rw [hp, ha]; exact Half.append_toNat lo hi
  have hdata : r.payload.drop 2 = data := by rw [hp]; rfl
  refine (State.serve_of_carries h hlen _).trans ?_
  simp only [haddr, hdata, State.reply_eq, Bool.not_eq_true']

/-- R61: MEM_READ by its checks. -/
theorem execMemRead_of_carries {s : State} {p : Fin 4} {r : Request} {lo hi n : Byte} {a : Nat} (h : s.carries 0x19 p r)
    (hp : r.payload = [lo, hi, n]) (ha : a = lo.toNat + 256 * hi.toNat) : exec .memRead s = .next
      (if inMemory a n.toNat = false ∨ n.toNat = 0 ∨ 236 < n.toNat then s.answered p r .badArg []
        else s.setInterp (.executing p (.reading a n.toNat []))).uartBoundary := by
  have haddr : (halfAt r.payload 0).toNat = a := by rw [hp, ha]; exact Half.append_toNat lo hi
  have hcount : byteAt r.payload 2 = n := by rw [hp]; rfl
  refine (State.serve_of_carries h (by rw [hp]; rfl) _).trans ?_
  simp only [haddr, hcount, State.reply_eq, Bool.or_eq_true, Bool.not_eq_true', decide_eq_true_eq, or_assoc]

/-! ### The records of jobs -/

/-- R63: the record after a JOB_SWAP, by the flag and the state found. -/
theorem Runtime.askSwap_eq (x : Runtime) : x.askSwap = if x.swap = true then { x with swap := false }
    else if x.state = .running ∨ x.state = .suspended then { x with swap := true }
    else { x with active := x.active.flip } := by
  simp only [Runtime.askSwap, JobState.inUse_iff]

/-- R65: the record after a pending swap has been taken. -/
theorem Runtime.takeSwap_eq (x : Runtime) :
    x.takeSwap = { x with active := if x.swap = true then x.active.flip else x.active, swap := false } := by
  unfold Runtime.takeSwap
  obtain ⟨_, _, _, _, swap, _⟩ := x
  cases swap <;> rfl

theorem JobDef.swaps_eq_true {d : JobDef} (hk : d.kind = .send ∨ d.kind = .receive) (hB : d.winB ≠ none) :
    d.swaps = true := by
  rcases hk with hk | hk <;> simp [JobDef.swaps, hk, Option.isSome_iff_ne_none, hB]

theorem JobDef.swaps_eq_false {d : JobDef} (h : d.kind = .exchange ∨ d.kind = .poll ∨ d.winB = none) : d.swaps = false := by
  unfold JobDef.swaps
  rcases h with h | h | h <;> simp only [h]
  cases d.kind <;> rfl

theorem execJobSwap_free {s : State} {p : Fin 4} {r : Request} {j : Fin 64} (h : s.carries 0x27 p r)
    (hp : r.payload = [natByte j.1]) (hs : (s.job j).rt.state = .free) :
    exec .jobSwap s = .next (s.answered p r .wrongState []).uartBoundary := by
  refine (State.serveJob_number h rfl hp _).trans ?_
  simp only [hs, State.reply_eq]

theorem execJobSwap_defined {s : State} {p : Fin 4} {r : Request} {j : Fin 64} {d : JobDef} (h : s.carries 0x27 p r)
    (hp : r.payload = [natByte j.1]) (hs : (s.job j).rt.state ≠ .free) (hd : (s.job j).defn = some d) :
    exec .jobSwap s = .next (if d.swaps = true
      then (s.setRt j (s.job j).rt.askSwap).answered p r .ok [(s.job j).rt.askSwap.active.code, flagByte (s.job j).rt.askSwap.swap]
      else s.answered p r .badArg []).uartBoundary := by
  refine (State.serveJob_number h rfl hp _).trans ?_
  cases hst : (s.job j).rt.state <;> simp only [hd, State.reply_eq]
  exact absurd hst hs

theorem execJobGet_of_carries {s : State} {p : Fin 4} {r : Request} {j : Fin 64} (h : s.carries 0x21 p r)
    (hp : r.payload = [natByte j.1]) :
    ((s.job j).rt.state = .free → exec .jobGet s = .next (s.answered p r .wrongState []).uartBoundary) ∧
    (∀ d, (s.job j).rt.state ≠ .free → (s.job j).defn = some d →
      exec .jobGet s = .next (s.answered p r .ok (natByte j.1 :: d.bytes)).uartBoundary) := by
  refine ⟨fun hs => (State.serveJob_number h rfl hp _).trans ?_, fun d hs hd => (State.serveJob_number h rfl hp _).trans ?_⟩
  · simp only [hs, State.reply_eq]
  · cases hst : (s.job j).rt.state <;> simp only [hd, State.reply_eq]
    exact absurd hst hs

end Sys2Proof.Machine

namespace Sys2Proof
open Sys2Proof.Machine

/-- Settles O36. -/
theorem targetRequests : Obligations.TargetRequests := by
  refine ⟨fun s p r n h hlen hn => ?_, fun s p r n h hp => ?_⟩
  · have hserve := State.serve_of_carries h (by rw [hlen]; rfl)
      fun p r => match finOf 16 (byteAt r.payload 0), parseProfile r.payload with
        | some t, some f =>
          if s.targetInUse t then s.reply p r .targetInUse [] else (s.setTarget t f).reply p r .ok []
        | _, _ => s.reply p r .badArg []
    simp only [finOf_of hn] at hserve
    refine ⟨fun hf => hserve.trans ?_, fun f hf => ⟨fun hu => hserve.trans ?_, fun hu => hserve.trans ?_⟩⟩
    · simp only [hf, State.reply_eq]
    · simp only [hf, State.targetInUse_iff.mpr hu, if_true, State.reply_eq]
    · simp only [hf, State.targetInUse_eq_false hu, Bool.false_eq_true, if_false, State.reply_eq]; rfl
  · have hn : (byteAt r.payload 0).toNat = n.1 := by rw [hp]; exact natByte_toNat (by omega)
    refine (State.serve_of_carries h (by rw [hp]; rfl) _).trans ?_
    simp only [finOf_of hn, State.reply_eq]

/-- Settles O38: windows in use hold a byte, so that the model's test of overlap finds every shared address. -/
theorem memWrite : Obligations.MemWrite := by
  intro s p r lo hi data a h hp h1 h2 ha hlawful
  have hover : ∀ v ∈ s.windowsInUse, Window.overlaps { start := a, len := data.length } v = true ↔
      ∃ b, v.start ≤ b ∧ b < v.start + v.len ∧ a ≤ b ∧ b < a + data.length := fun v hv =>
    Window.overlaps_iff h1 (Window.inBounds_iff.mp (State.inBounds_of_inUse hlawful hv)).2.1
  rw [execMemWrite_of_carries h hp h1 h2 ha]
  refine ⟨fun hout => by rw [inMemory_eq_false hout, if_pos rfl], fun hin => ?_⟩
  have hmem : inMemory a data.length = true := inMemory_iff.mpr (by omega)
  rw [hmem, if_neg (by simp)]
  refine ⟨fun ⟨v, hv, hb⟩ => ?_, fun hclear => ?_⟩
  · rw [if_pos (List.any_eq_true.mpr ⟨v, hv, (hover v hv).mpr hb⟩)]
  · rw [if_neg fun hany => ?_]
    obtain ⟨v, hv, hov⟩ := List.any_eq_true.mp hany
    obtain ⟨b, hvb, hbv, hab, hba⟩ := (hover v hv).mp hov
    rcases hclear v hv b hvb hbv with hlt | hle <;> omega

/-- Settles O39. -/
theorem windowsInUse : Obligations.WindowsInUse := by
  intro s v
  simp only [State.mem_windowsInUse_iff, mem_passWindows] <;> rfl

/-- Settles O40. -/
theorem memWriteDoneAndMemRead : Obligations.MemWriteDoneAndMemRead := by
  refine ⟨fun s p r a data hl hr hi => ?_, fun s p r lo hi n a h hp ha => ?_, fun s p r a got hl hr hi => ?_⟩
  · simp only [exec, execMemWriteDone, hi, hr, hl, le_refl, decide_true, Bool.and_self, if_true, State.reply_eq]
    rfl
  · rw [execMemRead_of_carries h hp ha]
    have hzero : n = 0 ↔ n.toNat = 0 := ⟨fun e => by rw [e]; rfl, fun e => BitVec.eq_of_toNat_eq e⟩
    refine ⟨fun hbad => ?_, fun h1 h2 h3 => ?_⟩
    · rw [if_pos]
      rcases hbad with hbad | hbad | hbad | hbad
      · exact .inl (inMemory_eq_false (.inl hbad))
      · exact .inr (.inl (hzero.mp hbad))
      · exact .inr (.inr hbad)
      · exact .inl (inMemory_eq_false (.inr hbad))
    · rw [inMemory_iff.mpr (by omega), if_neg (by simp; omega)]; rfl
  · simp only [exec, execMemReadDone, hi, hr, hl, le_refl, decide_true, Bool.and_self, if_true, State.reply_eq]
    rfl

/-- Settles O44. -/
theorem jobDefinitionRequests : Obligations.JobDefinitionRequests := by
  refine ⟨fun s p r j h hlen hj => ?_, fun s p r j h hp => execJobGet_of_carries h hp, fun s p r j x h hp hx => ?_⟩
  · have hserve := State.serveJob_of_carries h (by rw [hlen]; rfl) hj
      fun p r j => match parseJobDef r.payload with
        | none => s.reply p r .badArg []
        | some d =>
          match (s.job j).rt.state with
          | .free | .armed => (s.setJob j { defn := some d, rt := { Runtime.free with state := .armed } }).reply p r .ok []
          | .ready | .running | .suspended | .halted => s.reply p r .wrongState []
    refine ⟨fun hd => hserve.trans ?_, fun d hd => ⟨fun hst => hserve.trans ?_, fun hfree harmed => hserve.trans ?_⟩⟩
    · simp only [hd, State.reply_eq]
    · rcases hst with hst | hst <;> simp only [hd, hst, State.reply_eq] <;> rfl
    · cases hst : (s.job j).rt.state <;> simp only [hd, State.reply_eq]
      · exact absurd hst hfree
      · exact absurd hst harmed
  · subst hx
    exact (State.serveJob_number h rfl hp _).trans (by rw [State.reply_eq]; rfl)

/-- Settles O46. -/
theorem jobRecordRequests : Obligations.JobRecordRequests := by
  refine ⟨fun s p r j h hp => ?_, fun s p r j w h hp hw => ?_, fun s p r j d x y h hp hx => ?_, rfl, rfl⟩
  · refine ⟨fun hst => (State.serveJob_number h rfl hp _).trans ?_,
      fun harmed hhalted => (State.serveJob_number h rfl hp _).trans ?_⟩
    · rcases hst with hst | hst <;> simp only [hst, State.reply_eq] <;> rfl
    · cases hst : (s.job j).rt.state <;> simp only [State.reply_eq]
      · exact absurd hst harmed
      · exact absurd hst hhalted
  · subst hw
    refine ⟨fun hst => (State.serveJob_number h rfl hp _).trans ?_, fun hst => (State.serveJob_number h rfl hp _).trans ?_⟩
    · simp only [hst, State.reply_eq, Runtime.takeSwap_eq]; rfl
    · cases hst' : (s.job j).rt.state <;> simp only [State.reply_eq]
      exact absurd hst' hst
  · subst hx
    refine ⟨fun hst => execJobSwap_free h hp hst, fun hst hd hk => ?_, fun hst hd hk hB hy => ?_⟩
    · rw [execJobSwap_defined h hp hst hd, JobDef.swaps_eq_false hk, if_neg (by simp)]
    · rw [execJobSwap_defined h hp hst hd, JobDef.swaps_eq_true hk hB, if_pos rfl, hy, ← Runtime.askSwap_eq]; rfl

end Sys2Proof
end

section
/-! SUPPORT. The trigger rule by the state found, triggers of many jobs, and the requests that start and cancel jobs (06, 07). -/
namespace Sys2Proof.Machine

/-! ### The trigger rule (R114) -/

/-- The states in which a trigger has no effect. -/
def Runtime.deaf (x : Runtime) : Prop := x.state = .free ∨ x.state = .halted ∨ (x.state = .running ∧ x.cancel = true)

/-- The states in which a trigger is kept pending: RUNNING with no cancel requested, and SUSPENDED. -/
def Runtime.pends (x : Runtime) : Prop := (x.state = .running ∧ x.cancel = false) ∨ x.state = .suspended

theorem triggerOutcome_deaf {x : Runtime} (h : x.deaf) : triggerOutcome x = .ignored := by
  rcases h with h | h | ⟨h, hc⟩
  · simp only [triggerOutcome, h]
  · simp only [triggerOutcome, h]
  · simp only [triggerOutcome, h, hc, if_true]

theorem triggerOutcome_pends {x : Runtime} (h : x.pends) :
    triggerOutcome x = if x.pending = true then .overrun else .pended := by
  rcases h with ⟨h, hc⟩ | h
  · simp only [triggerOutcome, h, hc, Bool.false_eq_true, if_false]
  · simp only [triggerOutcome, h]

theorem triggerOutcome_armed {x : Runtime} (h : x.state = .armed) : triggerOutcome x = .queued := by
  simp only [triggerOutcome, h]

theorem triggerOutcome_ready {x : Runtime} (h : x.state = .ready) : triggerOutcome x = .overrun := by
  simp only [triggerOutcome, h]

/-- R115: an overrun of job j, counted and handed to the notice queue. -/
def State.overrun (s : State) (j : Fin 64) : State :=
  (s.setRt j { (s.job j).rt with overruns := satInc8 (s.job j).rt.overruns }).hand (.overrun j 1)

variable {s : State} {j : Fin 64}

theorem State.trigger_deaf (h : (s.job j).rt.deaf) : s.trigger j = s := by
  simp only [State.trigger, triggerOutcome_deaf h]

theorem State.trigger_armed (h : (s.job j).rt.state = .armed) :
    s.trigger j = (s.setRt j { (s.job j).rt with state := .ready }).choiceDueFor j := by
  simp only [State.trigger, triggerOutcome_armed h]

theorem State.trigger_ready (h : (s.job j).rt.state = .ready) : s.trigger j = s.overrun j := by
  simp only [State.trigger, triggerOutcome_ready h]; rfl

theorem State.trigger_pends (h : (s.job j).rt.pends) :
    s.trigger j = if (s.job j).rt.pending = true then s.overrun j
      else s.setRt j { (s.job j).rt with pending := true } := by
  rw [State.trigger, triggerOutcome_pends h]
  split_ifs <;> rfl

theorem State.choiceDueFor_of_defn {d : JobDef} (h : (s.job j).defn = some d) :
    s.choiceDueFor j = s.choiceDue (channelOf d.target) := by
  simp only [State.choiceDueFor, h]

/-- An ARMED job that takes a trigger joins its channel's ready queue, and a fresh choice is due there. -/
theorem State.trigger_armed_defn {d : JobDef} (h : (s.job j).rt.state = .armed) (hd : (s.job j).defn = some d) :
    s.trigger j = (s.setRt j { (s.job j).rt with state := .ready }).choiceDue (channelOf d.target) := by
  rw [State.trigger_armed h, State.choiceDueFor_of_defn (d := d) (by rw [State.defn_setRt, hd])]

theorem State.mem_readyQueue_trigger {d : JobDef} (h : (s.job j).rt.state = .armed) (hd : (s.job j).defn = some d) :
    j ∈ (s.trigger j).readyQueue (channelOf d.target) := by
  rw [State.trigger_armed_defn h hd, State.mem_readyQueue, State.onChannel_iff, State.job_choiceDue, State.job_setRt_self]
  exact ⟨⟨d, hd, rfl⟩, rfl⟩

/-- A trigger changes no other job. -/
theorem State.trigger_job_ne {k : Fin 64} (h : j ≠ k) : (s.trigger j).job k = s.job k := by
  unfold State.trigger
  split
  · rfl
  · rw [State.job_of_jobs (State.choiceDueFor_jobs _ _), State.job_setRt_ne _ h]
  · rw [State.job_setRt_ne _ h]
  · rw [State.job_hand, State.job_setRt_ne _ h]

/-- What a trigger makes of a job is read from that job alone. -/
theorem State.trigger_job_congr {t : State} (h : t.job j = s.job j) : (t.trigger j).job j = (s.trigger j).job j := by
  unfold State.trigger
  rw [h]
  split
  · exact h
  · rw [State.job_of_jobs (State.choiceDueFor_jobs _ _), State.job_of_jobs (State.choiceDueFor_jobs _ _),
      State.job_setRt_self, State.job_setRt_self, h]
  · rw [State.job_setRt_self, State.job_setRt_self, h]
  · rw [State.job_hand, State.job_hand, State.job_setRt_self, State.job_setRt_self, h]

/-- Triggers of different jobs, one after the other, each act on the record as it was. -/
theorem State.triggers_job (k : Fin 64) (l : List (Fin 64)) : l.Nodup → ∀ s : State,
    (l.foldl State.trigger s).job k = if k ∈ l then (s.trigger k).job k else s.job k := by
  induction l with
  | nil => intro _ s; simp
  | cons i l ih =>
    intro hnodup s
    obtain ⟨hi, hl⟩ := List.nodup_cons.mp hnodup
    rw [List.foldl_cons, ih hl]
    by_cases hik : i = k
    · subst hik
      rw [if_neg hi, if_pos List.mem_cons_self]
    · have hother : (s.trigger i).job k = s.job k := State.trigger_job_ne hik
      have hmem : k ∈ i :: l ↔ k ∈ l := by simp [Ne.symm hik]
      rw [State.trigger_job_congr hother, hother]
      simp only [hmem]

theorem State.namesSource_iff {src : TrigSource} :
    s.namesSource src j = true ↔ ∃ d, (s.job j).defn = some d ∧ d.source = src := by
  unfold State.namesSource
  cases (s.job j).defn <;> simp

/-! ### Timers and lines -/

/-- R119: a count that TIMER_SET has loaded or discarded is not 0. -/
theorem Timer.set_count_ne_zero {t : Timer} (h : t.period ≠ 0) (period : Half) (run : Bool) :
    (t.set period run).count ≠ some 0 := by
  have hp : (if period = 0 then t.period else period) ≠ 0 := by split_ifs with hz <;> assumption
  intro he
  cases run with
  | false => cases he
  | true => exact hp (BitVec.eq_of_toNat_eq (Option.some.inj he))

theorem execTimerExpiry_of_ne {n : Fin 4} (h : s.timed = false ∨ (s.timer n).count ≠ some 0) :
    exec (.timerExpiry n) s = .next s := by
  simp only [exec, execTimerExpiry]
  split
  · rename_i ht hc
    rcases h with h | h
    · cases h.symm.trans ht
    · exact absurd hc h
  · rfl

theorem EdgeSel.hits_iff {e : EdgeSel} {level : Bool} : e.hits level = true ↔
    e = .both ∨ (e = .rising ∧ level = true) ∨ (e = .falling ∧ level = false) := by
  cases e <;> simp [EdgeSel.hits]

/-! ### Requests on channels, timers and lines -/

theorem execChannelHold_of_carries {p : Fin 4} {r : Request} {c : Fin 4} {b : Byte} (h : s.carries 0x30 p r)
    (hp : r.payload = [natByte c.1, b]) : exec .channelHold s = .next (match flagOf b with
      | none => s.answered p r .badArg []
      | some held => (s.hold c held).answered p r .ok []).uartBoundary := by
  have hc : finOf 4 (byteAt r.payload 0) = some c := by rw [hp]; exact finOf_of (natByte_toNat (by omega))
  have hb : byteAt r.payload 1 = b := by rw [hp]; rfl
  refine (State.serve_of_carries h (by rw [hp]; rfl) _).trans ?_
  simp only [hc, hb, State.reply_eq]
  cases flagOf b <;> rfl

theorem execTimerSet_of_carries {p : Fin 4} {r : Request} {n : Fin 4} {lo hi b : Byte} (h : s.carries 0x38 p r)
    (hp : r.payload = [natByte n.1, lo, hi, b]) : exec .timerSet s = .next (match flagOf b with
      | none => s.answered p r .badArg []
      | some run => (s.setTimer n ((s.timer n).set (hi ++ lo : BitVec 16) run)).answered p r .ok
          (halfBytes ((s.timer n).set (hi ++ lo : BitVec 16) run).period ++ [flagByte run])).uartBoundary := by
  have hn : finOf 4 (byteAt r.payload 0) = some n := by rw [hp]; exact finOf_of (natByte_toNat (by omega))
  have hb : byteAt r.payload 3 = b := by rw [hp]; rfl
  have hperiod : halfAt r.payload 1 = (hi ++ lo : BitVec 16) := by rw [hp]; rfl
  refine (State.serve_of_carries h (by rw [hp]; rfl) _).trans ?_
  simp only [hn, hb, hperiod, State.reply_eq]
  cases flagOf b <;> rfl

theorem execLineSet_of_carries {p : Fin 4} {r : Request} {n : Fin 4} {b : Byte} (h : s.carries 0x39 p r)
    (hp : r.payload = [natByte n.1, b]) : exec .lineSet s = .next (match EdgeSel.ofByte b with
      | none => s.answered p r .badArg []
      | some e => (s.setLine n { s.line n with sel := e }).answered p r .ok [natByte n.1, e.code]).uartBoundary := by
  have hn : finOf 4 (byteAt r.payload 0) = some n := by rw [hp]; exact finOf_of (natByte_toNat (by omega))
  have hb : byteAt r.payload 1 = b := by rw [hp]; rfl
  refine (State.serve_of_carries h (by rw [hp]; rfl) _).trans ?_
  simp only [hn, hb, State.reply_eq]
  cases EdgeSel.ofByte b <;> rfl

theorem EdgeSel.ofByte_eq_none {b : Byte} (h : 4 ≤ b.toNat) : EdgeSel.ofByte b = none := by
  refine Option.eq_none_iff_forall_ne_some.mpr fun e he => ?_
  rw [EdgeSel.ofByte_eq_some_iff.mp he] at h
  cases e <;> exact absurd h (by decide)

/-- R119: the period after a TIMER_SET whose two bytes are 0 is the one before. -/
theorem Timer.set_period_bytes (t : Timer) (lo hi : Byte) (run : Bool) :
    (t.set (hi ++ lo : BitVec 16) run).period =
      if lo = 0 ∧ hi = 0 then t.period else BitVec.ofNat 16 (lo.toNat + 256 * hi.toNat) := by
  have hval : (hi ++ lo : BitVec 16) = BitVec.ofNat 16 (lo.toNat + 256 * hi.toNat) := by
    rw [← Half.append_toNat, BitVec.ofNat_toNat, BitVec.setWidth_eq]
  have hzero : (hi ++ lo : BitVec 16) = 0 ↔ lo = 0 ∧ hi = 0 := by rw [Half.eq_append_iff]; rfl
  rw [Timer.set, ← hval]
  simp only [hzero]

/-! ### JOB_START and JOB_CANCEL -/

theorem execJobStart_of_carries {p : Fin 4} {r : Request} (h : s.carries 0x24 p r) (hp : r.payload = [natByte j.1]) :
    exec .jobStart s = .next (match (triggerOutcome (s.job j).rt).code with
      | none => s.answered p r .wrongState []
      | some o => (s.trigger j).answered p r .ok [o]).uartBoundary := by
  refine (State.serveJob_number h rfl hp _).trans ?_
  cases (triggerOutcome (s.job j).rt).code <;> simp only [State.reply_eq]

theorem execJobCancel_of_carries {p : Fin 4} {r : Request} (h : s.carries 0x25 p r) (hp : r.payload = [natByte j.1]) :
    exec .jobCancel s = .next (match (s.job j).rt.state with
      | .free | .halted => s.answered p r .wrongState []
      | .armed => s.answered p r .ok [1, 0]
      | .ready => (s.setRt j { (s.job j).rt with state := .armed }).answered p r .ok [1, 0]
      | .running => (s.cancelRunning j).answered p r .ok [3, 1]
      | .suspended => (s.cancelSuspended j).answered p r .ok [1, 0]).uartBoundary := by
  refine (State.serveJob_number h rfl hp _).trans ?_
  cases (s.job j).rt.state <;> simp only [State.reply_eq] <;> rfl

theorem State.cancelSuspended_of_defn {d : JobDef} (h : (s.job j).defn = some d) :
    s.cancelSuspended j = (s.cancelledEnding j).setArb (channelOf d.target)
      { s.arb (channelOf d.target) with slot := none, choiceDue := true } := by
  have hd : ((s.cancelledEnding j).job j).defn = some d := by rw [State.cancelledEnding, State.defn_setRt]; exact h
  simp only [State.cancelSuspended, hd]
  rfl

theorem State.cancelRunning_of_cancel (h : (s.job j).rt.cancel = true) : s.cancelRunning j = s := by
  rw [State.cancelRunning, if_pos h]

/-- The pass of a channel as it stands: the engine's job, its definition and the target's profile. -/
theorem State.pass?_iff {c : Fin 4} {x : Pass} : s.pass? c = some x ↔
    (s.eng c).job = some x.job ∧ x.chan = c ∧ (s.job x.job).defn = some x.defn ∧ x.prof = s.target x.defn.target := by
  constructor
  · intro h
    obtain ⟨hc, hj, hd, hp⟩ := State.pass?_eq h
    exact ⟨hj, hc, hd, hp⟩
  · rintro ⟨hj, rfl, hd, hp⟩
    simp only [State.pass?, hj, hd, ← hp]

/-- The pass of a channel is read from the engines, the definitions and the targets. -/
theorem State.pass?_congr {t : State} {c : Fin 4} {x : Pass} (h : s.pass? c = some x) (heng : (t.eng c).job = (s.eng c).job)
    (hdefn : (t.job x.job).defn = (s.job x.job).defn) (htarget : t.targets = s.targets) : t.pass? c = some x := by
  obtain ⟨hj, hc, hd, hp⟩ := State.pass?_iff.mp h
  exact State.pass?_iff.mpr ⟨heng.trans hj, hc, hdefn.trans hd, by rw [hp]; simp only [State.target, htarget]⟩

/-- R105, R106: the cancel of the job of a pass sets the flag, and the engine carries it out. -/
theorem State.cancelRunning_of_pass {c : Fin 4} {x : Pass} (h : (s.job x.job).rt.cancel = false) (hx : s.pass? c = some x)
    (hc : channelOf x.defn.target = c) :
    s.cancelRunning x.job = (s.setRt x.job { (s.job x.job).rt with cancel := true }).carryCancel x := by
  obtain ⟨-, -, hd, -⟩ := State.pass?_iff.mp hx
  have hd' : ((s.setRt x.job { (s.job x.job).rt with cancel := true }).job x.job).defn = some x.defn := by
    rw [State.defn_setRt, hd]
  have hx' : (s.setRt x.job { (s.job x.job).rt with cancel := true }).pass? c = some x :=
    State.pass?_congr hx rfl (State.defn_setRt ..) rfl
  rw [State.cancelRunning, if_neg (by simp [h])]
  simp only [hd', State.onPass, hc, hx', if_true]

end Sys2Proof.Machine

namespace Sys2Proof
open Sys2Proof.Machine

/-- Settles O47. -/
theorem triggerRuleAndJobStart : Obligations.TriggerRuleAndJobStart := by
  refine ⟨fun s j x overran pend hx hoverran hpend => ?_, satInc8_toNat⟩
  subst hx hoverran hpend
  refine ⟨fun h => State.trigger_deaf h, fun d c h hd hc => ?_, fun h => State.trigger_ready h,
    fun h => State.trigger_pends h, fun p r h hp => ⟨fun hs => ?_, fun hs => ?_, fun hs => ?_, fun hs => ?_⟩⟩
  · subst hc
    exact ⟨State.trigger_armed_defn h hd, State.mem_readyQueue_trigger h hd⟩
  · rw [execJobStart_of_carries h hp, triggerOutcome_deaf hs]; rfl
  · rw [execJobStart_of_carries h hp, triggerOutcome_armed hs]; rfl
  · rw [execJobStart_of_carries h hp, triggerOutcome_ready hs]; rfl
  · rw [execJobStart_of_carries h hp, triggerOutcome_pends hs]
    cases (s.job j).rt.pending <;> rfl

/-- Settles O48. -/
theorem jobCancel : Obligations.JobCancel := by
  refine ⟨fun s p r j x h hp hx => ?_, fun s y e he => ?_⟩
  · subst hx
    have hexec := execJobCancel_of_carries h hp
    refine ⟨fun hs => ?_, fun hs => ?_, fun hs => ?_, fun d c hs hd hc => ?_, fun hs hcancel => ?_,
      fun c y t hs hcancel hy hj hc ht => ?_⟩
    · rcases hs with hs | hs <;> simp only [hexec, hs]
    · simp only [hexec, hs]
    · simp only [hexec, hs]; rfl
    · subst hc
      simp only [hexec, hs, State.cancelSuspended_of_defn hd]; rfl
    · simp only [hexec, hs, State.cancelRunning_of_cancel hcancel]
    · subst hj ht
      simp only [hexec, hs, State.cancelRunning_of_pass hcancel hy hc]; rfl
  · subst he
    refine ⟨fun h => ?_, fun h => ?_, fun h => ?_, fun h => ?_⟩
    · rcases h with h | h | h | h <;> simp only [State.carryCancel, h]
    · simp only [State.carryCancel, h]
    · simp only [State.carryCancel, State.waitForStore, h]
    · simp only [State.carryCancel, h]

/-- Settles O49. -/
theorem holdTimerAndLineRequests : Obligations.HoldTimerAndLineRequests := by
  refine ⟨fun s p r c b h hp => ?_, fun s p r n lo hi b q h hp hq => ?_, fun s p r n b h hp => ?_⟩
  · rw [execChannelHold_of_carries h hp]
    refine ⟨fun h2 => by rw [flagOf_eq_none h2], ?_, ?_⟩
    · rintro rfl
      simp [flagOf, State.hold, State.setArb]
    · rintro rfl
      simp only [flagOf, State.hold, State.setArb]
      cases (s.arb c).held <;> simp
  · rw [execTimerSet_of_carries h hp]
    refine ⟨fun h2 => by rw [flagOf_eq_none h2], fun h2 => ?_⟩
    rw [flagOf_eq_some h2]
    rw [← Timer.set_period_bytes (run := decide (b = 1))] at hq
    subst hq
    simp only [flagByte_decide h2, State.setTimer, Timer.set, decide_eq_true_eq]
    rfl
  · rw [execLineSet_of_carries h hp]
    refine ⟨fun h4 => by rw [EdgeSel.ofByte_eq_none h4], fun e he => ?_⟩
    have hcode : b = e.code := by
      simp only [List.mem_cons, Prod.mk.injEq, List.not_mem_nil, or_false] at he
      rcases he with ⟨rfl, rfl⟩ | ⟨rfl, rfl⟩ | ⟨rfl, rfl⟩ | ⟨rfl, rfl⟩ <;> rfl
    rw [EdgeSel.ofByte_eq_some_iff.mpr hcode, hcode]; rfl

/-- Settles O52. -/
theorem timerAndLineTriggers : Obligations.TimerAndLineTriggers := by
  refine ⟨fun s n ht hc => ?_, fun s n t period run hp hn => execTimerExpiry_of_ne (.inr ?_), fun s t n level ht he => ?_,
    fun s src => ⟨allJobs.filter (s.namesSource src), ?_, fun j => ?_, rfl, fun j => ?_⟩⟩
  · simp only [exec, execTimerExpiry, ht, hc]; rfl
  · rw [hn]; exact Timer.set_count_ne_zero hp period run
  · subst he
    simp only [exec, execLineEdge, ht, if_true]
    refine ⟨fun hseen hsel => ?_, fun hno => ?_⟩
    · rw [if_pos (by simp [hseen, EdgeSel.hits_iff.mpr hsel])]; rfl
    · rw [if_neg]
      · rfl
      · rw [Bool.and_eq_true, decide_eq_true_eq, EdgeSel.hits_iff]
        rintro ⟨hseen, hsel⟩
        rcases hno with hno | hno | ⟨hno, hl⟩ | ⟨hno, hl⟩
        · exact hno hseen
        · simp [hno] at hsel
        · simp [hno, hl] at hsel
        · simp [hno, hl] at hsel
  · exact (List.pairwise_lt_finRange 64).filter _
  · rw [List.mem_filter, State.namesSource_iff, and_iff_right (mem_allJobs j)]
  · exact State.triggers_job j _ ((List.nodup_finRange 64).filter _) s

end Sys2Proof
end

section
/-! SUPPORT. The memory arbiter's rotation and the fresh choice (04, 07): which requester, and which job, comes first. -/
namespace Sys2Proof.Machine

/-- In a list that rises by a key, the first element with a property is the one of least key. -/
theorem find?_eq_some_iff_of_rising {α : Type} (key : α → Nat) {f : α → Bool} {q : α} {l : List α}
    (h : l.Pairwise (fun a b => key a < key b)) :
    l.find? f = some q ↔ q ∈ l ∧ f q = true ∧ ∀ k ∈ l, f k = true → key q ≤ key k := by
  induction l with
  | nil => simp
  | cons a l ih =>
    obtain ⟨ha, hl⟩ := List.pairwise_cons.mp h
    cases hfa : f a with
    | true =>
      rw [List.find?_cons_of_pos hfa, Option.some.injEq]
      refine ⟨?_, fun ⟨hq, hfq, hleast⟩ => ?_⟩
      · rintro rfl
        refine ⟨List.mem_cons_self, hfa, fun k hk _ => ?_⟩
        rcases List.mem_cons.mp hk with rfl | hk
        · exact le_rfl
        · exact (ha k hk).le
      · rcases List.mem_cons.mp hq with rfl | hq
        · rfl
        · exact absurd (hleast a List.mem_cons_self hfa) (Nat.not_le.mpr (ha q hq))
    | false =>
      rw [List.find?_cons_of_neg (by simp [hfa]), ih hl]
      refine ⟨fun ⟨hq, hfq, hleast⟩ => ⟨List.mem_cons_of_mem a hq, hfq, fun k hk hfk => ?_⟩, fun ⟨hq, hfq, hleast⟩ =>
        ⟨?_, hfq, fun k hk => hleast k (List.mem_cons_of_mem a hk)⟩⟩
      · rcases List.mem_cons.mp hk with rfl | hk
        · cases hfa.symm.trans hfk
        · exact hleast k hk hfk
      · rcases List.mem_cons.mp hq with rfl | hq
        · cases hfa.symm.trans hfq
        · exact hq

/-! ### The rotation (R52) -/

theorem rotationFrom_rising : ∀ r : Fin 5,
    (rotationFrom r).Pairwise (fun a b => (a.1 + 4 - r.1) % 5 < (b.1 + 4 - r.1) % 5) := by decide

theorem mem_rotationFrom : ∀ r q : Fin 5, q ∈ rotationFrom r := by decide

theorem State.nextRequester_eq_some {s : State} {q : Fin 5} : s.nextRequester = some q ↔
    s.asking q = true ∧ ∀ k, s.asking k = true → (q.1 + 4 - s.rotation.1) % 5 ≤ (k.1 + 4 - s.rotation.1) % 5 := by
  rw [State.nextRequester, find?_eq_some_iff_of_rising _ (rotationFrom_rising s.rotation)]
  simp only [mem_rotationFrom, true_and, forall_const]

theorem State.asking_engine {s : State} (c : Fin 4) : s.asking ⟨c.1, Nat.lt_succ_of_lt c.2⟩ = true ↔ (s.eng c).asks ≠ [] := by
  rw [State.asking, dif_pos c.2, Bool.not_eq_true', List.isEmpty_eq_false_iff]

theorem State.asking_interp {s : State} : s.asking 4 = true ↔
    (∃ p a data n, s.interp = .executing p (.writing a data n) ∧ n < data.length) ∨
      (∃ p a n got, s.interp = .executing p (.reading a n got) ∧ got.length < n) := by
  rw [State.asking, dif_neg (by decide)]
  cases s.interp with
  | idle | resetWait _ => simp
  | executing p w => cases w <;> simp

/-! ### Grants -/

theorem access_of_lt {addr : Nat} (h : addr < 8192) (f : State) : access addr f = .next f.uartBoundary := if_pos h

variable {s : State}

theorem execMemoryGrant_interp (hl : s.live = true) (hq : s.nextRequester = some 4) :
    exec .memoryGrant s = State.grantInterp { s with rotation := 4 } := by
  simp only [exec, execMemoryGrant, hl, hq]
  rfl

theorem execMemoryGrant_engine {c : Fin 4} {x : Pass} {a : Ask} {rest : List Ask} (hl : s.live = true)
    (hq : s.nextRequester = some ⟨c.1, Nat.lt_succ_of_lt c.2⟩) (hx : s.pass? c = some x) (ha : (s.eng c).asks = a :: rest) :
    exec .memoryGrant s = match a with
      | .read => State.grantRead { s with rotation := ⟨c.1, Nat.lt_succ_of_lt c.2⟩ } x rest
      | .store b => State.grantStore { s with rotation := ⟨c.1, Nat.lt_succ_of_lt c.2⟩ } x b rest := by
  have hx' : State.pass? { s with rotation := ⟨c.1, Nat.lt_succ_of_lt c.2⟩ } c = some x := hx
  have ha' : (State.eng { s with rotation := ⟨c.1, Nat.lt_succ_of_lt c.2⟩ } c).asks = a :: rest := ha
  simp only [exec, execMemoryGrant, hl, hq, c.2, dif_pos, State.grantEngine, hx', ha']
  cases a <;> rfl

/-- R146: the read of the byte in SHIFT goes first. -/
theorem State.grantRead_cur {x : Pass} {k : Nat} (rest : List Ask) (hc : (s.eng x.chan).cur = .waiting k)
    (ha : s.readAddr x k < 8192) : s.grantRead x rest = .next (s.setEng x.chan
      { s.eng x.chan with asks := rest, cur := .held (s.mem.read (s.readAddr x k)) }).uartBoundary := by
  simp only [State.grantRead, hc, access_of_lt ha]

theorem State.grantRead_nxt {x : Pass} {k : Nat} (rest : List Ask) (hc : ∀ m, (s.eng x.chan).cur ≠ .waiting m)
    (hn : (s.eng x.chan).nxt = .waiting k) (ha : s.readAddr x k < 8192) : s.grantRead x rest = .next (s.setEng x.chan
      { s.eng x.chan with asks := rest, nxt := .held (s.mem.read (s.readAddr x k)) }).uartBoundary := by
  cases hcur : (s.eng x.chan).cur with
  | waiting m => exact absurd hcur (hc m)
  | empty | held b => simp only [State.grantRead, hcur, hn, access_of_lt ha]

theorem State.grantStore_of_lt {x : Pass} (b : Byte) (rest : List Ask) (ha : s.storeAddr x < 8192) :
    s.grantStore x b rest = .next (State.uartBoundary (if (s.eng x.chan).owed = true
      then (((s.setMem (s.mem.write (s.storeAddr x) b)).setEng x.chan { s.eng x.chan with asks := rest }).countByte x).afterStore x
      else (s.setMem (s.mem.write (s.storeAddr x) b)).setEng x.chan { s.eng x.chan with asks := rest })) :=
  access_of_lt ha _

theorem State.readAddr_eq (s : State) (x : Pass) (k : Nat) : s.readAddr x k = match x.defn.kind with
    | .send => (activeWindow x.defn (s.job x.job).rt.active).start + k
    | .exchange | .poll => x.defn.winA.start + k
    | .receive => 8192 := by
  unfold State.readAddr sendWindow
  cases x.defn.kind <;> rfl

theorem State.storeAddr_eq (s : State) (x : Pass) : s.storeAddr x = match x.defn.kind, x.defn.winB with
    | .receive, _ => (activeWindow x.defn (s.job x.job).rt.active).start + (s.job x.job).rt.progress
    | .exchange, some w => w.start + (s.job x.job).rt.progress
    | _, _ => 8192 := by
  unfold State.storeAddr recvWindow
  cases x.defn.kind <;> cases x.defn.winB <;> rfl

/-! ### The fresh choice (R123, R126) -/

/-- Job j of class k can be dispatched on channel c: READY, and no window of its pass overlaps the write claim. -/
def State.canDispatch (s : State) (c : Fin 4) (k : JobClass) (j : Fin 64) : Prop :=
  ∃ d, (s.job j).defn = some d ∧ (s.job j).rt.state = .ready ∧ channelOf d.target = c ∧ d.cls = k ∧
    ∀ w, s.claim = some w → ∀ v ∈ passWindows d (s.job j).rt.active, v.overlaps w = false

theorem State.blocked_eq_false {j : Fin 64} {d : JobDef} (h : (s.job j).defn = some d) : s.blocked j = false ↔
    ∀ w, s.claim = some w → ∀ v ∈ passWindows d (s.job j).rt.active, v.overlaps w = false := by
  unfold State.blocked
  rw [State.windowsOf_eq h]
  cases s.claim with
  | none => simp
  | some w => simp [Window.overlaps_comm w]

theorem State.canDispatch_iff {c : Fin 4} {k : JobClass} {j : Fin 64} :
    (s.isReady c k j && !s.blocked j) = true ↔ s.canDispatch c k j := by
  rw [Bool.and_eq_true, Bool.not_eq_true', State.isReady_iff, State.canDispatch]
  constructor
  · rintro ⟨⟨d, hd, hr, hc, hk⟩, hb⟩
    exact ⟨d, hd, hr, hc, hk, (State.blocked_eq_false hd).mp hb⟩
  · rintro ⟨d, hd, hr, hc, hk, hb⟩
    exact ⟨⟨d, hd, hr, hc, hk⟩, (State.blocked_eq_false hd).mpr hb⟩

theorem State.firstUnblocked_eq_some {c : Fin 4} {k : JobClass} {j : Fin 64} :
    s.firstUnblocked c k = some j ↔ s.canDispatch c k j ∧ ∀ i < j, ¬ s.canDispatch c k i := by
  rw [State.firstUnblocked, find?_eq_some_iff_of_rising (l := allJobs) Fin.val (List.pairwise_lt_finRange 64)]
  simp only [mem_allJobs, true_and, forall_const, State.canDispatch_iff]
  refine and_congr_right fun _ => forall_congr' fun i => ?_
  rw [Fin.lt_def, ← not_le]
  exact ⟨fun h hn hi => hn (h hi), fun h hi => by_contra fun hn => h hn hi⟩

theorem State.firstUnblocked_eq_none {c : Fin 4} {k : JobClass} :
    s.firstUnblocked c k = none ↔ ∀ j, ¬ s.canDispatch c k j := by
  rw [State.firstUnblocked, List.find?_eq_none]
  simp only [mem_allJobs, forall_const, State.canDispatch_iff]

theorem State.dispatch_of_defn {c : Fin 4} {j : Fin 64} {d : JobDef} (h : (s.job j).defn = some d) : s.dispatch c j =
    (s.setRt j { (s.job j).rt with state := .running, progress := 0 }).startPass
      { chan := c, job := j, defn := d, prof := s.target d.target } := by
  simp only [State.dispatch, h]

theorem State.resume_of_defn {c : Fin 4} {j : Fin 64} {d : JobDef} (h : (s.job j).defn = some d)
    (hs : (s.job j).rt.state = .suspended) : s.resume c j =
    ((s.setArb c { s.arb c with slot := none }).setRt j { (s.job j).rt with state := .running }).startPass
      { chan := c, job := j, defn := d, prof := s.target d.target } := by
  simp only [State.resume, h, hs]
  rfl

/-- The state in which the choice that was due is made. -/
def State.choiceMade (s : State) (c : Fin 4) : State := s.setArb c { s.arb c with choiceDue := false }

theorem execFreshChoice_none {c : Fin 4} (hl : s.live = true) (hdue : (s.arb c).choiceDue = true)
    (h : (s.eng c).state ≠ .idle ∨ (s.arb c).held = true) :
    execFreshChoice c s = .next (s.choiceMade c).uartBoundary := by
  have hno : ¬ (decide ((s.eng c).state = .idle) && !(s.arb c).held) = true := by
    rcases h with h | h <;> simp [h]
  unfold execFreshChoice
  rw [if_pos (by simp [hl, hdue])]
  exact if_neg hno

theorem execFreshChoice_choose {c : Fin 4} (hl : s.live = true) (hdue : (s.arb c).choiceDue = true)
    (hidle : (s.eng c).state = .idle) (hheld : (s.arb c).held = false) :
    execFreshChoice c s = .next ((s.choiceMade c).choose c).uartBoundary := by
  unfold execFreshChoice
  rw [if_pos (by simp [hl, hdue])]
  exact if_pos (by simp [hidle, hheld])

/-- R126: what the choice takes is read from the jobs, the claim and the slot, which the making of it leaves. -/
theorem State.choose_choiceMade (s : State) (c : Fin 4) : (s.choiceMade c).choose c =
    match s.firstUnblocked c .urgent, (s.arb c).slot, s.firstUnblocked c .normal with
    | some j, _, _ => (s.choiceMade c).dispatch c j
    | none, some j, _ => (s.choiceMade c).resume c j
    | none, none, some j => (s.choiceMade c).dispatch c j
    | none, none, none => s.choiceMade c := by
  have hfirst : ∀ k, (s.choiceMade c).firstUnblocked c k = s.firstUnblocked c k := fun _ => rfl
  have hslot : ((s.choiceMade c).arb c).slot = (s.arb c).slot := by simp [State.choiceMade]
  simp only [State.choose, hfirst, hslot]
  cases s.firstUnblocked c .urgent <;> cases (s.arb c).slot <;> cases s.firstUnblocked c .normal <;> rfl

theorem State.choose_dispatch {c : Fin 4} {j : Fin 64} {d : JobDef} (hd : (s.job j).defn = some d)
    (h : s.firstUnblocked c .urgent = some j ∨
      (s.firstUnblocked c .urgent = none ∧ (s.arb c).slot = none ∧ s.firstUnblocked c .normal = some j)) :
    (s.choiceMade c).choose c = ((s.choiceMade c).setRt j { (s.job j).rt with state := .running, progress := 0 }).startPass
      { chan := c, job := j, defn := d, prof := s.target d.target } := by
  have hdispatch : (s.choiceMade c).dispatch c j = _ := State.dispatch_of_defn hd
  rw [State.choose_choiceMade]
  rcases h with h | ⟨hu, hslot, hn⟩
  · simp only [h]; exact hdispatch
  · simp only [hu, hslot, hn]; exact hdispatch

theorem State.choose_resume {c : Fin 4} {j : Fin 64} {d : JobDef} (hd : (s.job j).defn = some d)
    (hs : (s.job j).rt.state = .suspended) (hu : s.firstUnblocked c .urgent = none) (hslot : (s.arb c).slot = some j) :
    (s.choiceMade c).choose c =
      ((s.setArb c { s.arb c with slot := none, choiceDue := false }).setRt j { (s.job j).rt with state := .running }).startPass
        { chan := c, job := j, defn := d, prof := s.target d.target } := by
  have hresume : (s.choiceMade c).resume c j = _ := State.resume_of_defn hd hs
  rw [State.choose_choiceMade]
  simp only [hu, hslot]
  rw [hresume, State.choiceMade, State.arb_setArb_self, State.setArb_setArb]
  rfl

theorem State.choose_nothing {c : Fin 4} (hu : s.firstUnblocked c .urgent = none) (hslot : (s.arb c).slot = none)
    (hn : s.firstUnblocked c .normal = none) : (s.choiceMade c).choose c = s.choiceMade c := by
  rw [State.choose_choiceMade]
  simp only [hu, hslot, hn]

end Sys2Proof.Machine

namespace Sys2Proof
open Sys2Proof.Machine

/-- Settles O41: the arbiter asks the requesters in the order of their distance from the one granted last. -/
theorem memoryRotation : Obligations.MemoryRotation :=
  fun _ _ => ⟨State.nextRequester_eq_some, State.asking_engine, State.asking_interp⟩

/-- Settles O42. -/
theorem grantToInterpreter : Obligations.GrantToInterpreter := by
  refine ⟨fun s p a n data hl hq hi ha => ?_, fun s p a n got hl hq hi ha => ?_, fun m a b v hm ha => ?_⟩
  · rw [execMemoryGrant_interp hl hq]
    simp only [State.grantInterp, hi, access_of_lt ha]; rfl
  · rw [execMemoryGrant_interp hl hq]
    simp only [State.grantInterp, hi, access_of_lt ha]; rfl
  · exact Memory.read_write hm a v b ha

/-- Settles O43. -/
theorem grantToEngine : Obligations.GrantToEngine := by
  intro s c x rest hl hq hx
  obtain ⟨rfl, -⟩ := State.pass?_eq hx
  refine ⟨fun k ha hc hlt => ?_, fun k ha hc hn hlt => ?_, fun b t ha hlt ht => ?_, s.readAddr_eq x, s.storeAddr_eq x⟩
  · exact (execMemoryGrant_engine hl hq hx ha).trans
      (State.grantRead_cur (s := { s with rotation := ⟨x.chan.1, Nat.lt_succ_of_lt x.chan.2⟩ }) rest hc hlt)
  · exact (execMemoryGrant_engine hl hq hx ha).trans
      (State.grantRead_nxt (s := { s with rotation := ⟨x.chan.1, Nat.lt_succ_of_lt x.chan.2⟩ }) rest hc hn hlt)
  · subst ht
    exact (execMemoryGrant_engine hl hq hx ha).trans
      (State.grantStore_of_lt (s := { s with rotation := ⟨x.chan.1, Nat.lt_succ_of_lt x.chan.2⟩ }) b rest hlt)

/-- Settles O53. -/
theorem freshChoice : Obligations.FreshChoice := by
  refine ⟨fun s t c hl hdue ht => ?_, fun s c k can hcan => ?_⟩
  · subst ht
    refine ⟨fun h => execFreshChoice_none hl hdue h, fun hidle hheld => ?_⟩
    have hexec : exec (.freshChoice c) s = .next ((s.choiceMade c).choose c).uartBoundary :=
      execFreshChoice_choose hl hdue hidle hheld
    rw [hexec]
    refine ⟨fun j d x h hd hx => ?_, fun j d x hu hslot hs hd hx => ?_, fun hu hslot hn => ?_⟩
    · rw [State.choose_dispatch hd h, hx]; rfl
    · rw [State.choose_resume hd hs hu hslot, hx]; rfl
    · rw [State.choose_nothing hu hslot hn]; rfl
  · have hcan' : ∀ j, can j ↔ s.canDispatch c k j := hcan
    simp only [hcan']
    exact ⟨fun j => State.firstUnblocked_eq_some, State.firstUnblocked_eq_none⟩

end Sys2Proof
end

section
/-! SUPPORT. A pass, event by event (08): what each part of a pass does, in the words of the manual. -/
namespace Sys2Proof.Machine

variable {s : State} {x : Pass}

/-! ### Levels and flags that a pass reads -/

theorem State.seesBusy_iff : s.seesBusy x = true ↔
    (x.prof.busy = .activeHigh ∧ s.busyLevel x.chan = some true) ∨
      (x.prof.busy = .activeLow ∧ s.busyLevel x.chan = some false) := by
  unfold State.seesBusy BusyMode.seesBusy
  cases x.prof.busy <;> simp

theorem State.suspensionAsked_iff : s.suspensionAsked x = true ↔ x.defn.cls = .normal ∧ x.defn.segment ≠ 0 ∧
    (s.job x.job).rt.cancel = false ∧ (s.arb x.chan).held = false ∧ s.firstUnblocked x.chan .urgent ≠ none := by
  simp only [State.suspensionAsked, State.cancelSet, Bool.and_eq_true, Bool.not_eq_true', decide_eq_true_eq,
    Option.isSome_iff_ne_none, and_assoc]

/-! ### The start of a pass -/

theorem State.startPass_eq {e : Engine} {o : OutByte}
    (ho : o = nextOut x.defn (if x.defn.kind = .poll then 0 else (s.job x.job).rt.progress))
    (he : e = { Engine.powerOn with
      state := .lead, job := some x.job, served := some x.defn.target, restHigh := decide (2 ≤ x.prof.clockMode.1)
      nxt := o, asks := o.asks }) :
    s.startPass x = if (s.eng x.chan).restHigh = decide (2 ≤ x.prof.clockMode.1) then (s.setEng x.chan e).assertSelect x
      else s.setEng x.chan { e with asserted := false, interval := 2 } := by
  subst he ho
  have hidle : decide (2 ≤ x.prof.clockMode.1) = x.prof.idleHigh := rfl
  rw [hidle]
  by_cases h : (s.eng x.chan).restHigh = x.prof.idleHigh
  · rw [if_pos h, ← h]
    simp only [State.startPass, State.selectTarget, State.eng_setEng_self, State.setEng_setEng]
    exact if_pos h
  · rw [if_neg h]
    simp only [State.startPass, State.selectTarget, State.eng_setEng_self, State.setEng_setEng]
    exact if_neg h

theorem State.assertSelect_eq (s : State) (x : Pass) : s.assertSelect x =
    if x.prof.lead = 0
    then (s.setEng x.chan { s.eng x.chan with state := .lead, asserted := true, interval := 0 }).leadDone x
    else s.setEng x.chan { s.eng x.chan with state := .lead, asserted := true, interval := 4 * x.prof.lead.toNat } := by
  have hclocks : x.prof.leadClocks = 4 * x.prof.lead.toNat := Nat.mul_comm _ _
  unfold State.assertSelect
  split_ifs with h <;> rw [hclocks]
  rw [h]; rfl

theorem nextOut_send {d : JobDef} (h : d.kind = .send ∨ d.kind = .exchange) (k : Nat) :
    nextOut d k = if k < d.winA.len then .waiting k else .empty := by
  rcases h with h | h <;> simp only [nextOut, h]

theorem nextOut_receive {d : JobDef} (h : d.kind = .receive) (k : Nat) :
    nextOut d k = if k < d.winA.len then .held d.fill else .empty := by
  simp only [nextOut, h]

theorem nextOut_poll {d : JobDef} (h : d.kind = .poll) (k : Nat) : nextOut d k =
    if k < d.winA.len then .waiting k else if k = d.winA.len then .held d.fill else .empty := by
  simp only [nextOut, h]

/-! ### Busy waits -/

theorem State.enterBusy_eq (s : State) (x : Pass) : s.enterBusy x =
    if (x.prof.busy = .activeHigh ∧ s.busyLevel x.chan = some true) ∨
        (x.prof.busy = .activeLow ∧ s.busyLevel x.chan = some false)
    then s.setEng x.chan { s.eng x.chan with state := .busyWait, interval := x.prof.timeout.toNat } else s.afterBusy x := by
  unfold State.enterBusy
  split_ifs with h hb hb
  · have hsees := State.seesBusy_iff.mpr hb
    rw [hsees, Bool.not_true, Bool.or_false, decide_eq_true_eq] at h
    rcases hb with ⟨hb, -⟩ | ⟨hb, -⟩ <;> cases h.symm.trans hb
  · rfl
  · rfl
  · have hsees : s.seesBusy x = false := Bool.eq_false_iff.mpr (mt State.seesBusy_iff.mp hb)
    simp [hsees] at h

theorem State.afterBusy_eq (s : State) (x : Pass) : s.afterBusy x =
    if x.defn.kind = .poll then s.startShift x
    else if x.defn.winA.len ≤ s.bytesEnded x then s.enterLag x (.passEnd .complete)
    else if x.defn.segment.toNat ≤ (s.eng x.chan).segCount ∧ s.suspensionAsked x = true then s.enterLag x .suspension
    else s.startShift x := by
  simp only [State.afterBusy, Bool.and_eq_true, decide_eq_true_eq]

theorem execBusyLevelSeen_waiting {c : Fin 4} {high : Bool} (ht : s.timed = true) (hx : s.pass? c = some x)
    (hw : (s.eng c).state = .busyWait) : exec (.busyLevelSeen c high) s =
      .next (if (x.prof.busy = .activeHigh ∧ high = true) ∨ (x.prof.busy = .activeLow ∧ high = false)
        then s.setBusyLevel c high else (s.setBusyLevel c high).afterBusy x).uartBoundary := by
  obtain ⟨rfl, -⟩ := State.pass?_eq hx
  have hx' : (s.setBusyLevel x.chan high).pass? x.chan = some x := hx
  have hsees : (s.setBusyLevel x.chan high).seesBusy x = true ↔
      (x.prof.busy = .activeHigh ∧ high = true) ∨ (x.prof.busy = .activeLow ∧ high = false) := by
    rw [State.seesBusy_iff, State.busyLevel_setBusyLevel, if_pos rfl, Option.some.injEq, Option.some.injEq]
  simp only [exec, execBusyLevelSeen, ht, hw, if_true, State.onPass, hx', hsees]
  rfl

/-! ### What follows a byte -/

theorem Profile.gapClocks_eq (p : Profile) : p.gapClocks = p.gap.toNat * (2 * (p.divider.toNat + 1)) := by
  rw [Profile.gapClocks, Profile.period_eq]

theorem State.afterByte_eq {e : Engine} {stay : State} (he : e = s.eng x.chan)
    (hstay : stay = s.setEng x.chan { e with ended := true, interval := 0 }) : s.afterByte x =
      if e.slip = true then (if e.owed = true then stay else s.enterLag x (.fault .slip))
      else if (s.job x.job).rt.cancel = true then (if e.owed = true then stay else s.enterLag x .cancel)
      else if e.unitPos < x.prof.unit ∧ s.bytesEnded x < x.defn.winA.len then
        (if x.prof.gap = 0 then s.startShift x else s.setEng x.chan { e with
          state := .gap, ended := false, interval := x.prof.gap.toNat * (2 * (x.prof.divider.toNat + 1)) })
      else if x.prof.strobe = true then s.setEng x.chan { e with
        state := .unitEnd, ended := false, interval := 2 * (x.prof.divider.toNat + 1) }
      else if e.owed = true then stay else s.unitSteps x := by
  subst hstay he
  simp only [State.afterByte, State.waitForStore, State.cancelSet, State.enterGap, Profile.gapClocks_eq, Profile.period_eq,
    Bool.and_eq_true, decide_eq_true_eq]

/-! ### The end of a pass -/

theorem State.enterLag_eq (s : State) (x : Pass) (r : LagReason) : s.enterLag x r = if x.prof.lag = 0 then s.finishPass x r
    else s.setEng x.chan { s.eng x.chan with
      state := .lag, lag := some r, ended := false, interval := 4 * x.prof.lag.toNat } := by
  have hclocks : x.prof.lagClocks = 4 * x.prof.lag.toNat := Nat.mul_comm _ _
  rw [State.enterLag, Engine.inLag, hclocks]

theorem State.enterAttemptLag_eq (s : State) (x : Pass) : s.enterAttemptLag x = if x.prof.lag = 0 then s.settleAttempt x
    else s.setEng x.chan { s.eng x.chan with
      state := .lag, lag := some .attemptEnd, ended := false, interval := 4 * x.prof.lag.toNat } := by
  have hclocks : x.prof.lagClocks = 4 * x.prof.lag.toNat := Nat.mul_comm _ _
  rw [State.enterAttemptLag, Engine.inLag, hclocks]

theorem State.lagDone_attempt (h : (s.eng x.chan).lag = some .attemptEnd) : s.lagDone x = s.settleAttempt x := by
  simp only [State.lagDone, h]

theorem State.lagDone_reason {r : LagReason} (h : (s.eng x.chan).lag = some r) (hr : r ≠ .attemptEnd) :
    s.lagDone x = s.finishPass x r := by
  cases r with
  | attemptEnd => exact absurd rfl hr
  | passEnd | suspension | cancel | fault => simp only [State.lagDone, h]

/-- R97: the ending by the reason and the cancel requested. -/
theorem State.applyEnding_eq (c : Fin 4) (j : Fin 64) (d : JobDef) (r : LagReason) :
    r ≠ .attemptEnd → s.applyEnding c j d r = match r, (s.job j).rt.cancel with
      | .fault f, _ => s.faultEnding j d f
      | .passEnd o, false => s.passEnd j d o
      | .suspension, false => s.suspend c j
      | _, _ => s.cancelledEnding j := by
  intro hr
  cases r with
  | attemptEnd => exact absurd rfl hr
  | fault f => rfl
  | cancel => cases (s.job j).rt.cancel <;> rfl
  | passEnd o => cases hc : (s.job j).rt.cancel <;> simp [State.applyEnding, hc]
  | suspension => cases hc : (s.job j).rt.cancel <;> simp [State.applyEnding, hc]

/-! ### POLL attempts -/

/-- What the ready queue and the claim say of a job is read from its definition, its state and its active window. -/
theorem State.firstUnblocked_congr {t : State} (hclaim : t.claim = s.claim)
    (h : ∀ j, (t.job j).defn = (s.job j).defn ∧ (t.job j).rt.state = (s.job j).rt.state ∧
      (t.job j).rt.active = (s.job j).rt.active) (c : Fin 4) (k : JobClass) :
    t.firstUnblocked c k = s.firstUnblocked c k := by
  unfold State.firstUnblocked
  congr 1
  funext j
  obtain ⟨hdefn, hstate, hactive⟩ := h j
  have hblocked : t.blocked j = s.blocked j := by
    unfold State.blocked
    rw [hclaim, State.windowsOf_congr hdefn hactive]
  have hready : t.isReady c k j = s.isReady c k j := by
    unfold State.isReady
    rw [hdefn, hstate]
  rw [hblocked, hready]

theorem State.suspensionAsked_countAttempt (reply : Byte) :
    (s.countAttempt x reply).suspensionAsked x = s.suspensionAsked x := by
  have hrt : ∀ j, ((s.countAttempt x reply).job j).defn = (s.job j).defn ∧
      ((s.countAttempt x reply).job j).rt.state = (s.job j).rt.state ∧
      ((s.countAttempt x reply).job j).rt.active = (s.job j).rt.active := by
    intro j
    refine ⟨State.defn_setRt .., ?_⟩
    rw [State.countAttempt, State.job_setRt]
    split_ifs with hj
    · subst hj; exact ⟨rfl, rfl⟩
    · exact ⟨rfl, rfl⟩
  have hcancel : ((s.countAttempt x reply).job x.job).rt.cancel = (s.job x.job).rt.cancel := by
    rw [State.countAttempt, State.job_setRt_self]
  unfold State.suspensionAsked State.cancelSet
  rw [hcancel, State.firstUnblocked_congr (s := s) (t := s.countAttempt x reply) rfl hrt]
  rfl

end Sys2Proof.Machine

namespace Sys2Proof
open Sys2Proof.Machine

/-- Settles O54. -/
theorem passStart : Obligations.PassStart := by
  refine ⟨fun s x e o ho he => State.startPass_eq ho he, State.assertSelect_eq, fun s x => rfl,
    fun s c x ht hx hlead => ⟨fun ha => State.engineEvent_of ht (by simp [hlead, ha]) hx _,
      fun ha => State.engineEvent_of ht (by simp [hlead, ha]) hx _⟩,
    fun d k => ⟨fun h => nextOut_send h k, fun h => nextOut_receive h k, fun h => nextOut_poll h k⟩,
    fun k b => ⟨rfl, rfl, rfl⟩⟩

/-- Settles O55. -/
theorem busyWait : Obligations.BusyWait := by
  refine ⟨fun s c x ht hx hw => ⟨?_, State.engineEvent_of ht (by simp [hw]) hx _⟩, fun s t c high ht he => ?_,
    State.enterBusy_eq, State.afterBusy_eq, fun s x => State.suspensionAsked_iff⟩
  · have hready : x.prof.busy.readyLevel = decide (x.prof.busy = .activeLow) := by cases x.prof.busy <;> rfl
    refine (State.engineEvent_of ht (by simp [hw]) hx _).trans ?_
    rw [hready]; rfl
  · subst he
    refine ⟨fun hw => ?_, fun x hx hw => execBusyLevelSeen_waiting ht hx hw⟩
    simp only [exec, execBusyLevelSeen, ht, hw, if_true, if_false]; rfl

/-- Settles O57. -/
theorem afterAByte : Obligations.AfterAByte := by
  refine ⟨fun s x e stay he hstay => State.afterByte_eq he hstay, fun s x t ht => ?_, fun s x e he => ?_,
    fun s c x ht hx hended => ⟨fun hgap => State.engineEvent_of ht (by simp [hgap, hended]) hx _, fun hunit => ?_⟩⟩
  · subst ht
    rfl
  · subst he
    refine ⟨fun h => ?_, fun h hs => ?_, fun h hs => ?_, fun h hs => ?_⟩
    · simp [State.afterStore, h]
    · simp only [State.afterStore, h, hs, Bool.not_true, Bool.false_eq_true, if_false]; rfl
    · simp [State.afterStore, h, hs]
    · simp [State.afterStore, h, hs]
  · obtain ⟨rfl, -⟩ := State.pass?_eq hx
    exact State.engineEvent_of ht (by simp [hunit, hended]) hx _

/-- Settles O58. -/
theorem lagAndHandOver : Obligations.LagAndHandOver := by
  refine ⟨State.enterLag_eq, fun s c x ht hx hlag => ?_, fun s t u x r hr hcancel ht hu => ?_⟩
  · obtain ⟨rfl, -⟩ := State.pass?_eq hx
    have hexec : exec (.lagEnd x.chan) s = .next (s.lagDone x).uartBoundary :=
      State.engineEvent_of ht (by simp [hlag]) hx _
    rw [hexec]
    exact ⟨fun h => by rw [State.lagDone_attempt h], fun r h hr => by rw [State.lagDone_reason h hr]⟩
  · have hend : u = t.applyEnding x.chan x.job x.defn r := by
      rw [State.applyEnding_eq _ _ _ _ hr, hu, ht]
      rfl
    subst hend ht
    rfl

/-- Settles O60. -/
theorem pollAttempts : Obligations.PollAttempts := by
  refine ⟨fun s t u x reply hreply hleft ht hu => ?_, State.enterAttemptLag_eq,
    fun s c x ht hx hw => State.engineEvent_of ht (by simp [hw]) hx _, fun s c x => State.pass?_iff⟩
  have htcount : t = s.countAttempt x reply := ht
  have hprogress : (t.job x.job).rt.progress = (s.job x.job).rt.progress + 1 := by
    rw [htcount, State.countAttempt, State.job_setRt_self]
  have hcancel : t.cancelSet x = (s.job x.job).rt.cancel := by
    rw [htcount, State.cancelSet, State.countAttempt, State.job_setRt_self]
  have hasked : t.suspensionAsked x = s.suspensionAsked x := by rw [htcount, State.suspensionAsked_countAttempt]
  have hlimit : x.defn.retryLimit.toNat ≤ (t.job x.job).rt.progress ↔
      (s.job x.job).rt.progress + 1 = x.defn.retryLimit.toNat := by rw [hprogress]; omega
  have hwait : t.enterPollWait x = if x.defn.interval = 0 then t.startPass x else u := by
    rw [State.enterPollWait, hu, htcount]; rfl
  unfold State.settleAttempt
  simp only [hreply, Option.getD_some]
  rw [← htcount]
  simp only [hlimit, hcancel, hasked, hwait]

end Sys2Proof
end

section
/-! SUPPORT. The events of one byte (R146 to R149, R153, R158): its start, its last bit, and the end of its eighth period. -/
namespace Sys2Proof.Machine

variable {s : State} {x : Pass}

theorem Profile.firstEdge_iff (p : Profile) : p.firstEdge = true ↔ p.clockMode.1 % 2 = 0 := decide_eq_true_iff

theorem Kind.stores_iff (k : Kind) : k.stores = true ↔ k = .receive ∨ k = .exchange := by cases k <;> simp [Kind.stores]

/-- R146, R153: the engine at the start of a byte, the flags as the manual's conditions. -/
theorem Engine.inShift_eq (e : Engine) (d : JobDef) (p : Profile) (k : Nat) (busy : Bool) : e.inShift d p k busy = { e with
    state := .shift, asserted := true, replying := decide (d.kind = .poll ∧ k = d.winA.len), cur := e.nxt
    nxt := nextOut d (k + 1), asks := e.asks ++ (nextOut d (k + 1)).asks, inByte := none, ended := false
    interval := 16 * (p.divider.toNat + 1)
    slip := decide (p.slipCheck = true ∧ ¬ (d.kind = .poll ∧ k = d.winA.len) ∧ 1 ≤ e.unitPos ∧ busy = true)
    sdo := match e.nxt with
      | .held b => if p.clockMode.1 % 2 = 0
        then (match p.order with | .msbFirst => b.getLsbD 7 | .lsbFirst => b.getLsbD 0) else e.sdo
      | _ => e.sdo } := by
  have hperiod : 8 * p.period = 16 * (p.divider.toNat + 1) := by rw [Profile.period_eq]; omega
  have hslip : (p.slipCheck && !(decide (d.kind = .poll) && decide (k = d.winA.len)) && decide (1 ≤ e.unitPos) && busy) =
      decide (p.slipCheck = true ∧ ¬ (d.kind = .poll ∧ k = d.winA.len) ∧ 1 ≤ e.unitPos ∧ busy = true) := by
    cases p.slipCheck <;> cases busy <;> simp
  have hsdo : (match p.firstEdge, e.nxt with
        | true, .held b => p.order.bitOut b 0
        | _, _ => e.sdo) = match e.nxt with
      | .held b => if p.clockMode.1 % 2 = 0
        then (match p.order with | .msbFirst => b.getLsbD 7 | .lsbFirst => b.getLsbD 0) else e.sdo
      | _ => e.sdo := by
    cases hedge : p.firstEdge with
    | true =>
      have hmode := (p.firstEdge_iff).mp hedge
      cases e.nxt <;> simp only [hmode, if_true] <;> cases p.order <;> rfl
    | false =>
      have hmode : ¬ p.clockMode.1 % 2 = 0 := fun h => by cases hedge.symm.trans (p.firstEdge_iff.mpr h)
      cases e.nxt <;> simp only [hmode, if_false]
  rw [Engine.inShift, hperiod, hslip]
  congr 1
  exact (Bool.decide_and _ _).symm

/-- R142: SDO after the eighth period is the last bit of the byte sent. -/
theorem Engine.lastLevel_eq (e : Engine) (o : BitOrder) : e.lastLevel o = match e.cur with
    | .held b => (match o with | .msbFirst => b.getLsbD 0 | .lsbFirst => b.getLsbD 7)
    | _ => e.sdo := by
  unfold Engine.lastLevel
  cases e.cur with
  | held b => cases o <;> rfl
  | empty | waiting k => rfl

theorem Engine.byteCanEnd_of {e : Engine} (hs : e.state = .shift) (he : e.ended = false) (hc : ∀ k, e.cur ≠ .waiting k)
    (hi : e.inByte ≠ none ∨ e.storeWaiting = none) : e.byteCanEnd = true := by
  have hhere : e.cur.here = true := by
    cases hcur : e.cur with
    | waiting k => exact absurd hcur (hc k)
    | empty | held b => rfl
  have hin : (e.inByte.isSome || e.storeWaiting.isNone) = true := by
    rcases hi with hi | hi
    · rw [Option.isSome_iff_ne_none.mpr hi, Bool.true_or]
    · rw [hi, Option.isNone_none, Bool.or_true]
  simp only [Engine.byteCanEnd, hs, he, hhere, hin, decide_true, Bool.not_false, Bool.and_self]

theorem State.bitsArrived_eq (s : State) (x : Pass) (b : Byte) : s.bitsArrived x b =
    if x.prof.clockMode.1 % 2 = 1 then s
    else if (s.eng x.chan).replying = true then s.setEng x.chan { s.eng x.chan with inByte := some b }
    else if x.defn.kind = .receive ∨ x.defn.kind = .exchange then
      s.setEng x.chan { s.eng x.chan with inByte := some b, asks := (s.eng x.chan).asks ++ [.store b] }
    else s := by
  have hedge : (!x.prof.firstEdge) = true ↔ x.prof.clockMode.1 % 2 = 1 := by
    rw [Bool.not_eq_true', ← Bool.not_eq_true, Profile.firstEdge_iff]; omega
  simp only [State.bitsArrived, hedge, Kind.stores_iff]

theorem State.endByte_replying (b : Byte) (h : (s.eng x.chan).replying = true) : s.endByte x b =
    (s.setEng x.chan { s.eng x.chan with
      sdo := (s.eng x.chan).lastLevel x.prof.order, inByte := some ((s.eng x.chan).inByte.getD b) }).enterAttemptLag x := by
  rw [State.endByte]
  exact if_pos h

/-- The engine at the end of a byte's eighth period, its unit position counted. -/
def Engine.byteOver (e : Engine) (o : BitOrder) : Engine := { e with sdo := e.lastLevel o, unitPos := e.unitPos + 1 }

theorem State.endByte_poll (b : Byte) (h : (s.eng x.chan).replying = false) (hk : x.defn.kind = .poll) :
    s.endByte x b = (s.setEng x.chan { (s.eng x.chan).byteOver x.prof.order with
      attemptPos := (s.eng x.chan).attemptPos + 1 }).afterByte x := by
  rw [State.endByte, if_neg (by simp [h])]
  simp only [hk, State.eng_setEng_self, State.setEng_setEng]
  rfl

theorem State.endByte_send (b : Byte) (h : (s.eng x.chan).replying = false) (hk : x.defn.kind = .send) :
    s.endByte x b = ((s.setEng x.chan ((s.eng x.chan).byteOver x.prof.order)).countByte x).afterByte x := by
  rw [State.endByte, if_neg (by simp [h])]
  simp only [hk]
  rfl

theorem State.endByte_stores (b : Byte) (h : (s.eng x.chan).replying = false)
    (hk : x.defn.kind = .receive ∨ x.defn.kind = .exchange) :
    s.endByte x b = ((s.setEng x.chan ((s.eng x.chan).byteOver x.prof.order)).endStored x b).afterByte x := by
  rw [State.endByte, if_neg (by simp [h])]
  rcases hk with hk | hk <;> simp only [hk] <;> rfl

/-- R148: a byte whose store has been made is complete. -/
theorem State.endStored_made (b : Byte) (hi : (s.eng x.chan).inByte ≠ none) (hs : (s.eng x.chan).storeWaiting = none) :
    s.endStored x b = s.countByte x := by
  rw [State.endStored]
  exact if_pos (by simp [Option.isSome_iff_ne_none, hi, hs])

theorem State.endStored_waiting (b : Byte) (hi : (s.eng x.chan).inByte ≠ none) (hs : (s.eng x.chan).storeWaiting ≠ none) :
    s.endStored x b = s.setEng x.chan { s.eng x.chan with owed := true } := by
  rw [State.endStored]
  exact (if_neg (by simp [Option.isSome_iff_ne_none, hi, hs])).trans (if_pos (by simp [Option.isSome_iff_ne_none, hi]))

theorem State.endStored_late (b : Byte) (hi : (s.eng x.chan).inByte = none) : s.endStored x b =
    s.setEng x.chan { s.eng x.chan with inByte := some b, asks := (s.eng x.chan).asks ++ [.store b], owed := true } := by
  rw [State.endStored]
  exact (if_neg (by simp [hi])).trans (if_neg (by simp [hi]))

theorem reverseByte_getLsbD (w : Byte) {i : Nat} (h : i < 8) : (reverseByte w).getLsbD i = w.getLsbD (7 - i) := by
  refine (BitVec.getLsbD_ofBoolListBE ..).trans ?_
  interval_cases i <;> rfl

end Sys2Proof.Machine

namespace Sys2Proof
open Sys2Proof.Machine

/-- Settles O56. -/
theorem byteEvents : Obligations.ByteEvents := by
  refine ⟨fun s x e k o he hk ho => ?_, fun s c x wire b e out ht hx he hshift hended hcur hin hb hout => ?_,
    fun w i hi => ⟨rfl, reverseByte_getLsbD w hi⟩, fun s x e he => ?_⟩
  · subst he hk ho
    rw [State.startShift, Engine.inShift_eq]
    simp only [State.seesBusy_iff] <;> rfl
  · obtain ⟨rfl, -⟩ := State.pass?_eq hx
    subst he hb
    have hcan := Engine.byteCanEnd_of hshift hended hcur hin
    have hlevel : (s.eng x.chan).lastLevel x.prof.order = out := (Engine.lastLevel_eq _ _).trans hout.symm
    have hend : exec (.byteEnd x.chan wire) s = .next (s.endByte x (x.prof.order.fromWire wire)).uartBoundary :=
      State.engineEvent_of ht hcan hx _
    rw [hend]
    refine ⟨fun hi => ?_, fun hr => ?_, fun hr hk => ?_, fun hr hk => ?_, fun hr hk hi hs => ?_, fun hr hk hi => ?_⟩
    · rw [← State.bitsArrived_eq]
      exact State.engineEvent_of ht (by simp [hcan, hi]) hx _
    · rw [State.endByte_replying _ hr, hlevel]
    · rw [State.endByte_poll _ hr hk, Engine.byteOver, hlevel]
    · have hcount : s.endByte x (x.prof.order.fromWire wire) =
          ((s.setEng x.chan ((s.eng x.chan).byteOver x.prof.order)).countByte x).afterByte x := by
        rcases hk with hk | ⟨hk, hi, hs⟩
        · exact State.endByte_send _ hr hk
        · rw [State.endByte_stores _ hr hk, State.endStored_made _ (by rw [State.eng_setEng_self]; exact hi)
            (by rw [State.eng_setEng_self]; exact hs)]
      rw [hcount, ← hlevel, State.countByte, State.eng_setEng_self, State.setEng_setEng]
      rfl
    · rw [State.endByte_stores _ hr hk, State.endStored_waiting _ (by rw [State.eng_setEng_self]; exact hi)
        (by rw [State.eng_setEng_self]; exact hs), State.eng_setEng_self, State.setEng_setEng, Engine.byteOver, hlevel]
    · rw [State.endByte_stores _ hr hk, State.endStored_late _ (by rw [State.eng_setEng_self]; exact hi),
        State.eng_setEng_self, State.setEng_setEng, Engine.byteOver, hlevel]
  · subst he
    rw [State.bytesEnded]
    cases (s.eng x.chan).owed <;> rfl

end Sys2Proof
end

section
/-! SUPPORT. The endings (R94, R97 to R102, R169): what a pass end makes of its own job, of the job that its link names, of the
notice queue and of the choices due. -/
namespace Sys2Proof.Machine

/-! ### What triggers and endings leave -/

/-- All but the jobs, the notices and the arbiters is as it was. -/
def JobsOnly (s t : State) : Prop := t = { s with jobs := t.jobs, notices := t.notices, arbs := t.arbs }

namespace JobsOnly

theorem refl (s : State) : JobsOnly s s := rfl

theorem trans {s t u : State} (h : JobsOnly s t) (k : JobsOnly t u) : JobsOnly s u := by
  unfold JobsOnly at h k ⊢
  rw [h] at k
  exact k

theorem choiceDueFor (s : State) (j : Fin 64) : JobsOnly s (s.choiceDueFor j) := by
  unfold State.choiceDueFor
  split <;> rfl

theorem trigger (s : State) (j : Fin 64) : JobsOnly s (s.trigger j) := by
  unfold State.trigger
  split
  · exact refl s
  · exact trans (t := s.setRt j _) rfl (choiceDueFor _ j)
  · rfl
  · rfl

theorem fire (s : State) (l : Option (Fin 64)) : JobsOnly s (s.fire l) := by
  cases l with
  | none => exact refl s
  | some j => exact trigger s j

theorem passEndState (s : State) (j : Fin 64) : JobsOnly s (s.passEndState j) := by
  unfold State.passEndState
  split
  · exact trans (t := s.setRt j _) rfl (choiceDueFor _ j)
  · rfl

end JobsOnly

variable {s t : State} {j : Fin 64}

/-- A fresh choice has become due on the channel of job j; nothing else of an arbiter has changed. -/
theorem State.choiceDueFor_arb (s : State) (j : Fin 64) (c : Fin 4) :
    (((s.choiceDueFor j).arb c).choiceDue = true ↔ (s.arb c).choiceDue = true ∨
      ∃ m, (s.job j).defn = some m ∧ channelOf m.target = c) ∧
    ((s.choiceDueFor j).arb c).held = (s.arb c).held ∧ ((s.choiceDueFor j).arb c).slot = (s.arb c).slot := by
  unfold State.choiceDueFor
  cases (s.job j).defn with
  | none => simp
  | some d =>
    by_cases hc : channelOf d.target = c
    · subst hc
      simp [State.choiceDue]
    · simp [State.choiceDue, State.arb_setArb_ne _ hc, hc]

theorem State.choiceDueFor_notices (s : State) (j : Fin 64) : (s.choiceDueFor j).notices = s.notices := by
  unfold State.choiceDueFor
  split <;> rfl

theorem State.trigger_arb (s : State) (j : Fin 64) (c : Fin 4) :
    (((s.trigger j).arb c).choiceDue = true ↔ (s.arb c).choiceDue = true ∨
      ((s.job j).rt.state = .armed ∧ ∃ m, (s.job j).defn = some m ∧ channelOf m.target = c)) ∧
    ((s.trigger j).arb c).held = (s.arb c).held ∧ ((s.trigger j).arb c).slot = (s.arb c).slot := by
  by_cases h : (s.job j).rt.state = .armed
  · have hdue := State.choiceDueFor_arb (s.setRt j { (s.job j).rt with state := .ready }) j c
    rw [State.defn_setRt, State.arb_setRt] at hdue
    rw [State.trigger_armed h]
    simpa [h] using hdue
  · have hsame : (s.trigger j).arb c = s.arb c := by
      unfold State.trigger
      split
      · rfl
      · rename_i ho
        exfalso
        revert ho
        unfold triggerOutcome
        cases hst : (s.job j).rt.state <;> simp_all <;> split_ifs <;> simp
      · rfl
      · rfl
    simp [hsame, h]

/-- What a trigger hands is read from the job and the queue. -/
theorem State.trigger_notices_congr (h : t.job j = s.job j) (hn : t.notices = s.notices) :
    (t.trigger j).notices = (s.trigger j).notices := by
  unfold State.trigger
  rw [h]
  split
  · exact hn
  · rw [State.choiceDueFor_notices, State.choiceDueFor_notices]; exact hn
  · exact hn
  · exact congrArg (fun q => q.hand (.overrun j 1)) hn

/-! ### A pass end -/

/-- R98: the record of a job whose pass has ended with e and whose link has been fired; `own` says that the link names the job. -/
def Runtime.linked (x : Runtime) (e : Ending) (own : Prop) [Decidable own] : Runtime :=
  { x.countPass e with
    pending := x.pending || decide own
    overruns := if own ∧ x.pending = true then satInc8 x.overruns else x.overruns }

theorem Runtime.pends_countPass {x : Runtime} (hs : x.state = .running) (hc : x.cancel = false) (e : Ending) :
    (x.countPass e).pends := .inl ⟨by simpa [Runtime.countPass] using hs, by simpa [Runtime.countPass] using hc⟩

/-- R98 steps 1 to 4: the record of the job. -/
theorem State.firedEnd_job (hs : (s.job j).rt.state = .running) (hc : (s.job j).rt.cancel = false) (e : Ending)
    (l : Option (Fin 64)) : ((s.setRt j ((s.job j).rt.countPass e)).fire l).job j =
      { s.job j with rt := (s.job j).rt.linked e (l = some j) } := by
  have hov : ((s.job j).rt.countPass e).overruns = (s.job j).rt.overruns := by
    simp [Runtime.countPass, Runtime.takeSwap_eq]
  cases l with
  | none => simp [State.fire, Runtime.linked, Runtime.countPass, Runtime.takeSwap_eq]
  | some k =>
    by_cases hk : k = j
    · subst hk
      have hpends : ((s.setRt k ((s.job k).rt.countPass e)).job k).rt.pends := by
        rw [State.job_setRt_self]; exact Runtime.pends_countPass hs hc e
      rw [State.fire, State.trigger_pends hpends, State.job_setRt_self]
      cases hp : (s.job k).rt.pending <;>
        simp [hp, State.overrun, Runtime.linked, Runtime.countPass, Runtime.takeSwap_eq]
    · rw [State.fire, State.trigger_job_ne hk, State.job_setRt_self]
      simp [Runtime.linked, Runtime.countPass, Runtime.takeSwap_eq, hk]

theorem State.firedEnd_job_ne {k : Fin 64} (hk : k ≠ j) (r : Runtime) (l : Option (Fin 64)) :
    ((s.setRt j r).fire l).job k = if l = some k then (s.trigger k).job k else s.job k := by
  have hsame : (s.setRt j r).job k = s.job k := State.job_setRt_ne s (Ne.symm hk) r
  cases l with
  | none => exact hsame
  | some i =>
    by_cases hi : i = k
    · subst hi
      rw [if_pos rfl]
      exact State.trigger_job_congr hsame
    · rw [if_neg (by simpa using hi)]
      exact (State.trigger_job_ne hi).trans hsame

theorem State.firedEnd_notices (hs : (s.job j).rt.state = .running) (hc : (s.job j).rt.cancel = false) (e : Ending)
    (l : Option (Fin 64)) : ((s.setRt j ((s.job j).rt.countPass e)).fire l).notices = match l with
      | none => s.notices
      | some k => if k = j then (if (s.job j).rt.pending = true then s.notices.hand (.overrun j 1) else s.notices)
        else (s.trigger k).notices := by
  cases l with
  | none => rfl
  | some k =>
    by_cases hk : k = j
    · subst hk
      have hpends : ((s.setRt k ((s.job k).rt.countPass e)).job k).rt.pends := by
        rw [State.job_setRt_self]; exact Runtime.pends_countPass hs hc e
      simp only [if_true]
      rw [State.fire, State.trigger_pends hpends, State.job_setRt_self]
      cases hp : (s.job k).rt.pending <;> simp [hp, State.overrun, Runtime.countPass]
    · simp only [hk, if_false]
      exact State.trigger_notices_congr (State.job_setRt_ne s (Ne.symm hk) _) rfl

theorem State.firedEnd_arb (hs : (s.job j).rt.state = .running) (e : Ending) (l : Option (Fin 64)) (c : Fin 4) :
    ((((s.setRt j ((s.job j).rt.countPass e)).fire l).arb c).choiceDue = true ↔ (s.arb c).choiceDue = true ∨
      ∃ k m, k ≠ j ∧ l = some k ∧ (s.job k).rt.state = .armed ∧ (s.job k).defn = some m ∧ channelOf m.target = c) ∧
    (((s.setRt j ((s.job j).rt.countPass e)).fire l).arb c).held = (s.arb c).held ∧
    (((s.setRt j ((s.job j).rt.countPass e)).fire l).arb c).slot = (s.arb c).slot := by
  cases l with
  | none => simp [State.fire]
  | some k =>
    have harb := State.trigger_arb (s.setRt j ((s.job j).rt.countPass e)) k c
    rw [State.arb_setRt] at harb
    refine ⟨harb.1.trans (or_congr_right ?_), harb.2⟩
    by_cases hk : k = j
    · subst hk
      rw [State.job_setRt_self]
      simp [Runtime.countPass, hs]
    · rw [State.job_setRt_ne s (Ne.symm hk)]
      exact ⟨fun ⟨ha, m, hm, hc⟩ => ⟨k, m, hk, rfl, ha, hm, hc⟩,
        fun ⟨i, m, _, hi, ha, hm, hc⟩ => by cases hi; exact ⟨ha, m, hm, hc⟩⟩

/-- Step 6 of a pass end: READY for a pending trigger, which it takes, else ARMED. -/
theorem State.passEndState_job_self (s : State) (j : Fin 64) : (s.passEndState j).job j = { s.job j with
    rt := { (s.job j).rt with
      state := if (s.job j).rt.pending = true then .ready else .armed, pending := false } } := by
  unfold State.passEndState
  split_ifs with hp
  · rw [State.job_of_jobs (State.choiceDueFor_jobs _ _), State.job_setRt_self]
  · rw [State.job_setRt_self, ← Bool.eq_false_iff.mpr hp]

theorem State.passEndState_job_ne {k : Fin 64} (hk : k ≠ j) : (s.passEndState j).job k = s.job k := by
  unfold State.passEndState
  split
  · rw [State.job_of_jobs (State.choiceDueFor_jobs _ _), State.job_setRt_ne _ (Ne.symm hk)]
  · rw [State.job_setRt_ne _ (Ne.symm hk)]

theorem State.passEndState_notices (s : State) (j : Fin 64) : (s.passEndState j).notices = s.notices := by
  unfold State.passEndState
  split
  · rw [State.choiceDueFor_notices]; rfl
  · rfl

theorem State.passEndState_arb (s : State) (j : Fin 64) (c : Fin 4) :
    (((s.passEndState j).arb c).choiceDue = true ↔ (s.arb c).choiceDue = true ∨
      ((s.job j).rt.pending = true ∧ ∃ m, (s.job j).defn = some m ∧ channelOf m.target = c)) ∧
    ((s.passEndState j).arb c).held = (s.arb c).held ∧ ((s.passEndState j).arb c).slot = (s.arb c).slot := by
  unfold State.passEndState
  split_ifs with hp
  · have hdue := State.choiceDueFor_arb (s.setRt j { (s.job j).rt with state := .ready, pending := false }) j c
    rw [State.defn_setRt, State.arb_setRt] at hdue
    simpa [hp] using hdue
  · simp [hp]

/-- The state of a pass end before its last step: counted, linked, and its JOB_DONE handed if notify is yes. -/
def State.pastNotice (s : State) (j : Fin 64) (d : JobDef) (o : PassOutcome) : State :=
  let u := (s.setRt j ((s.job j).rt.countPass o.ending)).fire (o.link d)
  if d.notify then u.hand (u.jobDone j o.ending) else u

theorem State.passEnd_eq (s : State) (j : Fin 64) (d : JobDef) (o : PassOutcome) :
    s.passEnd j d o = (s.pastNotice j d o).passEndState j := rfl

/-- The hand-over of JOB_DONE leaves all but the notices. -/
theorem State.pastNotice_parts (s : State) (j : Fin 64) (d : JobDef) (o : PassOutcome) :
    (∀ k, (s.pastNotice j d o).job k = ((s.setRt j ((s.job j).rt.countPass o.ending)).fire (o.link d)).job k) ∧
    (∀ c, (s.pastNotice j d o).arb c = ((s.setRt j ((s.job j).rt.countPass o.ending)).fire (o.link d)).arb c) ∧
    JobsOnly s (s.pastNotice j d o) := by
  have hfired : JobsOnly s ((s.setRt j ((s.job j).rt.countPass o.ending)).fire (o.link d)) :=
    JobsOnly.trans (t := s.setRt j _) rfl (JobsOnly.fire _ _)
  unfold State.pastNotice
  dsimp only
  split
  · exact ⟨fun _ => rfl, fun _ => rfl, hfired.trans rfl⟩
  · exact ⟨fun _ => rfl, fun _ => rfl, hfired⟩

theorem State.pastNotice_notices (hs : (s.job j).rt.state = .running) (hc : (s.job j).rt.cancel = false) (d : JobDef)
    (o : PassOutcome) : (s.pastNotice j d o).notices =
      if d.notify = true
      then ((s.setRt j ((s.job j).rt.countPass o.ending)).fire (o.link d)).notices.hand
        (.jobDone j o.ending 1 (s.job j).rt.progress (s.job j).rt.lastPoll)
      else ((s.setRt j ((s.job j).rt.countPass o.ending)).fire (o.link d)).notices := by
  have hdone : ((s.setRt j ((s.job j).rt.countPass o.ending)).fire (o.link d)).jobDone j o.ending =
      .jobDone j o.ending 1 (s.job j).rt.progress (s.job j).rt.lastPoll := by
    rw [State.jobDone, State.firedEnd_job hs hc]
    simp [Runtime.linked, Runtime.countPass, Runtime.takeSwap_eq]
  unfold State.pastNotice
  dsimp only
  rw [hdone]
  split <;> rfl

/-! ### The other endings -/

theorem State.cancelledEnding_eq (s : State) (j : Fin 64) : s.cancelledEnding j =
    (s.hand (.jobDone j .cancelled 1 (s.job j).rt.progress (s.job j).rt.lastPoll)).setRt j { (s.job j).rt with
      pending := false, swap := false, active := if (s.job j).rt.swap = true then (s.job j).rt.active.flip else (s.job j).rt.active
      lastEnding := .cancelled, cancel := false, state := .armed } := by
  rw [State.cancelledEnding, Runtime.cancelled, Runtime.takeSwap_eq]; rfl

/-- R169: the failure link of a halted job that names the job itself fires into HALTED. -/
theorem State.faultEnding_eq (s : State) (j : Fin 64) (d : JobDef) (f : JobFault) : s.faultEnding j d f =
    match d.failure with
      | none => s.haltJob (channelOf d.target) j f
      | some k => if k = j then s.haltJob (channelOf d.target) j f else (s.haltJob (channelOf d.target) j f).trigger k := by
  unfold State.faultEnding
  cases d.failure with
  | none => rfl
  | some k =>
    by_cases hk : k = j
    · subst hk
      simp only [if_true]
      refine State.trigger_deaf (.inr (.inl ?_))
      rw [State.haltJob, State.job_hand, State.job_setRt_self]; rfl
    · simp only [hk, if_false]; rfl

end Sys2Proof.Machine

namespace Sys2Proof
open Sys2Proof.Machine

/-- Settles O59: a pass end counts, fires its link, hands its record and then looks at the pending trigger, so that a link to
the job itself makes it READY. -/
theorem endings : Obligations.Endings := by
  refine ⟨fun s t j d o e l x hx hd hs hc ht hol => ?_, fun s j x hx => ?_, fun s t j d f x hx ht => ?_,
    fun s c j hs => if_pos hs⟩
  · have he : e = o.ending ∧ l = o.link d := by
      rcases hol with ⟨rfl, rfl, rfl⟩ | ⟨rfl, rfl, rfl⟩ <;> exact ⟨rfl, rfl⟩
    obtain ⟨rfl, rfl⟩ := he
    subst hx ht
    obtain ⟨hjobs, harbs, honly⟩ := s.pastNotice_parts j d o
    have hself : (s.pastNotice j d o).job j = { s.job j with rt := (s.job j).rt.linked o.ending (o.link d = some j) } :=
      (hjobs j).trans (State.firedEnd_job hs hc _ _)
    have hpending : ((s.pastNotice j d o).job j).rt.pending = true ↔ (s.job j).rt.pending = true ∨ o.link d = some j := by
      rw [hself]; simp [Runtime.linked]
    rw [State.passEnd_eq]
    refine ⟨?_, fun k hk => ?_, fun q hq => ?_, fun c => ?_, fun c => ?_, honly.trans (JobsOnly.passEndState _ _)⟩
    · rw [State.passEndState_job_self]
      simp only [hpending]
      rw [hself]
      simp [Runtime.linked, Runtime.countPass, Runtime.takeSwap_eq]
    · rw [State.passEndState_job_ne hk, hjobs, State.firedEnd_job_ne hk]
    · have hfired : ((s.setRt j ((s.job j).rt.countPass o.ending)).fire (o.link d)).notices = q :=
        (State.firedEnd_notices hs hc _ _).trans hq.symm
      rw [State.passEndState_notices, State.pastNotice_notices hs hc, hfired]
    · have hchannel : (∃ m, (s.job j).defn = some m ∧ channelOf m.target = c) ↔ channelOf d.target = c := by simp [hd]
      rw [(State.passEndState_arb _ _ c).1, harbs, (State.firedEnd_arb hs _ _ c).1, hpending, hself, hchannel, or_assoc,
        and_comm (a := (s.job j).rt.pending = true ∨ o.link d = some j)]
      exact or_congr_right or_comm
    · obtain ⟨-, hheld, hslot⟩ := State.passEndState_arb (s.pastNotice j d o) j c
      obtain ⟨-, hheld', hslot'⟩ := State.firedEnd_arb hs o.ending (o.link d) c
      rw [hheld, hslot, harbs, hheld', hslot']
      exact ⟨rfl, rfl⟩
  · subst hx
    rw [State.cancelledEnding_eq]; rfl
  · subst hx ht
    rw [State.faultEnding_eq]; rfl

end Sys2Proof
end

section
/-! SUPPORT. CHANNEL_ABORT (R168, R176, R177): the store of the engine that stops, the jobs halted and the jobs made ARMED. -/
namespace Sys2Proof.Machine

variable {s : State} {c : Fin 4}

/-! ### The engine's stop -/

theorem storeWaiting_iff (asks : List Ask) (b : Byte) :
    asks.findSome? (fun a => match a with | .store b => some b | .read => none) = some b ↔
      ∃ k l, asks = List.replicate k .read ++ .store b :: l := by
  induction asks with
  | nil => simp
  | cons a asks ih =>
    cases a with
    | read =>
      rw [List.findSome?_cons_of_isNone (by rfl), ih]
      constructor
      · rintro ⟨k, l, rfl⟩; exact ⟨k + 1, l, rfl⟩
      · rintro ⟨k, l, h⟩
        cases k with
        | zero => cases h
        | succ k => exact ⟨k, l, List.tail_eq_of_cons_eq h⟩
    | store d =>
      rw [List.findSome?_cons_of_isSome (by rfl)]
      constructor
      · rintro ⟨⟩; exact ⟨0, asks, rfl⟩
      · rintro ⟨k, l, h⟩
        cases k with
        | zero => cases h; rfl
        | succ k => cases h

/-- R168: a stop with a byte to store writes it, counts it, and leaves the engine IDLE. -/
theorem State.stopEngine_store {x : Pass} {b : Byte} (hx : s.pass? c = some x) (hb : (s.eng c).storeWaiting = some b) :
    s.stopEngine c = ((s.setMem (s.mem.write (s.storeAddr x) b)).setEng c (s.eng c).release).setRt x.job
      { (s.job x.job).rt with progress := (s.job x.job).rt.progress + 1 } := by
  obtain ⟨rfl, -⟩ := State.pass?_eq hx
  unfold State.stopEngine
  simp only [hx, State.storeAtStop, hb, State.countByte_eng]
  rw [State.countByte_eq]
  simp only [State.setEng, State.setRt, State.setJob, State.setMem, Vector.set_set]
  rfl

/-- The stop of an engine leaves all but the engines, memory and the job whose byte is counted. -/
theorem State.stopEngine_frame (s : State) (c : Fin 4) : s.stopEngine c =
    { s with mem := (s.stopEngine c).mem, jobs := (s.stopEngine c).jobs, engs := (s.stopEngine c).engs } := by
  have hstore : ∀ x, s.storeAtStop x = { s with
      mem := (s.storeAtStop x).mem, jobs := (s.storeAtStop x).jobs, engs := (s.storeAtStop x).engs } := by
    intro x
    unfold State.storeAtStop
    split <;> rfl
  unfold State.stopEngine
  split
  · rfl
  · rw [hstore]; rfl

theorem State.stopEngine_state (s : State) (c : Fin 4) (j : Fin 64) :
    ((s.stopEngine c).job j).rt.state = (s.job j).rt.state := by
  rw [s.stopEngine_counted c j]

/-! ### Jobs halted and disarmed -/

/-- Jobs are halted one after the other. -/
def State.haltAll (s : State) (c : Fin 4) (l : List (Fin 64)) : State := l.foldl (fun t j => t.haltJob c j .aborted) s

theorem State.abortJob_eq (s : State) (c : Fin 4) (o : Option (Fin 64)) : s.abortJob c o = s.haltAll c o.toList := by
  cases o <;> rfl

theorem State.haltAll_append (s : State) (c : Fin 4) (l m : List (Fin 64)) :
    s.haltAll c (l ++ m) = (s.haltAll c l).haltAll c m := List.foldl_append ..

theorem State.haltJob_job (s : State) (c : Fin 4) (j k : Fin 64) (f : JobFault) : (s.haltJob c j f).job k =
    if j = k then { s.job k with rt := (s.job k).rt.halt f } else s.job k := by
  rw [State.haltJob, State.job_hand, State.job_setRt]
  split_ifs with h
  · rw [h]
  · rfl

/-- Different jobs are each halted as they were. -/
theorem State.haltAll_job (k : Fin 64) (l : List (Fin 64)) : l.Nodup → ∀ s : State, (s.haltAll c l).job k =
    if k ∈ l then { s.job k with rt := (s.job k).rt.halt .aborted } else s.job k := by
  induction l with
  | nil => intro _ s; simp [State.haltAll]
  | cons i l ih =>
    intro hnodup s
    obtain ⟨hi, hl⟩ := List.nodup_cons.mp hnodup
    have hstep : s.haltAll c (i :: l) = (s.haltJob c i .aborted).haltAll c l := rfl
    rw [hstep, ih hl, State.haltJob_job]
    by_cases hik : i = k
    · subst hik; simp [hi]
    · simp [hik, Ne.symm hik]

/-- The records handed carry the progress of the jobs as they were. -/
theorem State.haltAll_notices (l : List (Fin 64)) : l.Nodup → ∀ s : State, (s.haltAll c l).notices =
    l.foldl (fun q j => q.hand (.jobFault j c .aborted (s.job j).rt.progress)) s.notices := by
  induction l with
  | nil => intro _ s; rfl
  | cons i l ih =>
    intro hnodup s
    obtain ⟨hi, hl⟩ := List.nodup_cons.mp hnodup
    have hstep : s.haltAll c (i :: l) = (s.haltJob c i .aborted).haltAll c l := rfl
    rw [hstep, ih hl, List.foldl_cons]
    refine List.foldl_ext _ _ _ fun q j hj => ?_
    rw [State.haltJob_job, if_neg (by rintro rfl; exact hi hj)]

theorem State.haltAll_frame (l : List (Fin 64)) : ∀ s : State,
    s.haltAll c l = { s with jobs := (s.haltAll c l).jobs, notices := (s.haltAll c l).notices } := by
  induction l with
  | nil => intro s; rfl
  | cons i l ih =>
    intro s
    have hstep : s.haltAll c (i :: l) = (s.haltJob c i .aborted).haltAll c l := rfl
    rw [hstep, ih]; rfl

theorem State.disarms_job (k : Fin 64) (l : List (Fin 64)) : ∀ s : State, (l.foldl State.disarm s).job k =
    if k ∈ l then { s.job k with rt := { (s.job k).rt with state := .armed } } else s.job k := by
  induction l with
  | nil => intro s; simp
  | cons i l ih =>
    intro s
    rw [List.foldl_cons, ih, State.disarm, State.job_setRt]
    by_cases hik : i = k
    · subst hik; simp
    · simp [hik, Ne.symm hik]

theorem State.disarms_frame (l : List (Fin 64)) : ∀ s : State,
    l.foldl State.disarm s = { s with jobs := (l.foldl State.disarm s).jobs } := by
  induction l with
  | nil => intro s; rfl
  | cons i l ih => intro s; rw [List.foldl_cons, ih]; rfl

/-! ### The abort of a coherent channel -/

/-- The jobs that an abort halts, in its order: the RUNNING one and the SUSPENDED one. -/
def State.abortedJobs (s : State) (c : Fin 4) : List (Fin 64) := (s.eng c).job.toList ++ (s.arb c).slot.toList

theorem State.Coherent.mem_abortedJobs (h : s.Coherent) {j : Fin 64} : j ∈ s.abortedJobs c ↔
    s.onChannel c j = true ∧ ((s.job j).rt.state = .running ∨ (s.job j).rt.state = .suspended) := by
  rw [State.abortedJobs, List.mem_append, Option.mem_toList, Option.mem_toList]
  constructor
  · rintro (he | hs)
    · obtain ⟨hon, hrun⟩ := h.engineJob c j he
      exact ⟨hon, .inl hrun⟩
    · obtain ⟨hon, hsus, -⟩ := h.slotJob c j hs
      exact ⟨hon, .inr hsus⟩
  · rintro ⟨hon, hrun | hsus⟩
    · exact .inl (h.job_of_running hon hrun)
    · obtain ⟨b, hb⟩ := h.suspended j hsus
      obtain rfl := State.onChannel_unique (h.slotJob b j hb).1 hon
      exact .inr hb

theorem State.Coherent.nodup_abortedJobs (h : s.Coherent) (c : Fin 4) : (s.abortedJobs c).Nodup := by
  unfold State.abortedJobs
  cases he : (s.eng c).job with
  | none => cases (s.arb c).slot <;> simp
  | some j =>
    cases hs : (s.arb c).slot with
    | none => simp
    | some k =>
      have hne : j ≠ k := by
        rintro rfl
        cases (h.engineJob c j he).2.symm.trans (h.slotJob c j hs).2.1
      simpa using hne

theorem State.Coherent.abortChannel_eq (h : s.Coherent) (c : Fin 4) : s.abortChannel c =
    ((s.readyQueue c).foldl State.disarm ((s.stopEngine c).haltAll c (s.abortedJobs c))).setArb c
      { s.arb c with slot := none, choiceDue := true } := by
  have harb : ((s.readyQueue c).foldl State.disarm ((s.stopEngine c).haltAll c (s.abortedJobs c))).arb c = s.arb c := by
    rw [State.disarms_frame, State.haltAll_frame, State.stopEngine_frame]; rfl
  rw [← harb]
  simp only [State.abortChannel, h.runningJob_eq, State.abortJob_eq, ← State.haltAll_append]
  rfl

/-- R177: every job after an abort, by its channel and its state. -/
theorem State.Coherent.abortChannel_job (h : s.Coherent) (c : Fin 4) (j : Fin 64) {x : Runtime}
    (hx : x = ((s.stopEngine c).job j).rt) : (s.abortChannel c).job j = { (s.stopEngine c).job j with
      rt := if s.onChannel c j = true ∧ (x.state = .running ∨ x.state = .suspended) then x.halt .aborted
        else if s.onChannel c j = true ∧ x.state = .ready then { x with state := .armed } else x } := by
  subst hx
  rw [h.abortChannel_eq, State.job_setArb, State.disarms_job, State.haltAll_job _ _ (h.nodup_abortedJobs c)]
  simp only [h.mem_abortedJobs, State.mem_readyQueue, State.stopEngine_state]
  by_cases hhalt : s.onChannel c j = true ∧ ((s.job j).rt.state = .running ∨ (s.job j).rt.state = .suspended)
  · have hready : ¬ (s.onChannel c j = true ∧ (s.job j).rt.state = .ready) := by
      rintro ⟨-, hr⟩
      rcases hhalt with ⟨-, hs | hs⟩ <;> cases hr.symm.trans hs
    simp only [if_pos hhalt, if_neg hready]
  · simp only [if_neg hhalt]
    split_ifs <;> rfl

theorem State.Coherent.abortChannel_notices (h : s.Coherent) (c : Fin 4) : (s.abortChannel c).notices =
    ((s.eng c).job.toList ++ (s.arb c).slot.toList).foldl
      (fun q j => q.hand (.jobFault j c .aborted ((s.stopEngine c).job j).rt.progress)) s.notices := by
  have hstop : (s.stopEngine c).notices = s.notices := by rw [State.stopEngine_frame]
  rw [h.abortChannel_eq, State.setArb_notices, State.disarms_frame, ← hstop]
  exact State.haltAll_notices _ (h.nodup_abortedJobs c) _

theorem State.Coherent.abortChannel_frame (h : s.Coherent) (c : Fin 4) : s.abortChannel c = { s.stopEngine c with
    jobs := (s.abortChannel c).jobs, notices := (s.abortChannel c).notices
    arbs := s.arbs.set c.1 { s.arb c with slot := none, choiceDue := true } c.2 } := by
  have harbs : ((s.readyQueue c).foldl State.disarm ((s.stopEngine c).haltAll c (s.abortedJobs c))).arbs = s.arbs := by
    rw [State.disarms_frame, State.haltAll_frame, State.stopEngine_frame]
  rw [h.abortChannel_eq, State.setArb, harbs, State.disarms_frame, State.haltAll_frame]

end Sys2Proof.Machine

namespace Sys2Proof
open Sys2Proof.Machine

/-- Settles O50: the jobs that a coherent channel's abort halts are the engine's and the slot's, and the READY ones it makes
ARMED are others. -/
theorem channelAbort : Obligations.ChannelAbort := by
  refine ⟨fun s p r c h hp => ?_, fun s c u t h hu ht => ?_, fun s c e he => ?_, fun e b => storeWaiting_iff e.asks b⟩
  · have hc : finOf 4 (byteAt r.payload 0) = some c := by rw [hp]; exact finOf_of (natByte_toNat (by omega))
    refine (State.serve_of_carries h (by rw [hp]; rfl) _).trans ?_
    simp only [hc, State.reply_eq]
  · subst hu ht
    exact ⟨fun j x hx => h.abortChannel_job c j hx, h.abortChannel_notices c, h.abortChannel_frame c⟩
  · subst he
    exact ⟨fun hb => State.stopEngine_of_nothing_waiting hb, fun x b hx hb => State.stopEngine_store hx hb⟩

end Sys2Proof
end

section
/-! SUPPORT. What no command changes but the few named: memory, the straps and the queue (R3, R33, R159), and the targets, the
definitions and the active windows that passes use (R73, R81). -/
namespace Sys2Proof.Machine

/-! ### The queue, the straps and memory -/

/-- The queue and the straps are as they were, and memory is when the command has no access to it. -/
structure FixedParts (i : Instr) (s t : State) : Prop where
  pending : t.pending = s.pending
  straps : t.straps = s.straps
  mem : mayWriteMemory i = false → t.mem = s.mem

theorem FixedParts.of_link {i : Instr} {s t : State} (h : LinkSide s t) : FixedParts i s t := ⟨h.pending, h.straps, fun _ => h.mem⟩

theorem FixedParts.of_engine {i : Instr} {s t : State} (h : EngineSide s t) : FixedParts i s t := ⟨h.pending, h.straps, fun _ => h.mem⟩

theorem FixedParts.trans {i : Instr} {s t u : State} (h : FixedParts i s t) (g : FixedParts i t u) : FixedParts i s u :=
  ⟨g.pending.trans h.pending, g.straps.trans h.straps, fun hi => (g.mem hi).trans (h.mem hi)⟩

theorem Move.fixedParts {i : Instr} {s t : State} (h : Move i s t) : FixedParts i s t := by
  have writes : ∀ {u : State}, mayWriteMemory i = true → u.pending = s.pending → u.straps = s.straps → FixedParts i s u :=
    fun may pending straps => ⟨pending, straps, fun hi => by rw [may] at hi; cases hi⟩
  cases h with
  | link _ h => exact .of_link h.side
  | engine _ h => exact .of_engine h.side
  | unclaim p a data n r =>
    exact FixedParts.trans (t := { s with claim := none }) ⟨rfl, rfl, fun _ => rfl⟩ (.of_link (State.reply_side _ p r .ok []))
  | write a b may => exact writes may rfl rfl
  | startUp trg busy may => exact writes may rfl rfl
  | abort c may => exact writes may (s.abortChannel_side c).pending (s.abortChannel_side c).straps
  | reset u link may =>
    exact writes (mayWriteMemory_of_mayReset may) ((u.resetRequest_pending).trans link.pending)
      ((u.resetRequest_straps).trans link.straps)
  | powerOn may => exact writes (mayWriteMemory_of_mayReset may) s.powerOn_pending s.powerOn_straps
  | _ => exact ⟨rfl, rfl, fun _ => rfl⟩

theorem Moves.fixedParts {i : Instr} {s t : State} (h : Moves i s t) : FixedParts i s t := by
  induction h with
  | refl => exact .of_link (.refl s)
  | tail _ hmove ih => exact ih.trans hmove.fixedParts

/-! ### What passes use -/

/-- Targets and definitions are as they were, and so are the active windows of the jobs in use, none of which is new. -/
structure PassData (s t : State) : Prop where
  targets : t.targets = s.targets
  defn : ∀ j, (t.job j).defn = (s.job j).defn
  use : UseBut none s t

namespace PassData

variable {s t u : State}

theorem of_parts (targets : t.targets = s.targets) (jobs : t.jobs = s.jobs) : PassData s t :=
  ⟨targets, fun j => by rw [State.job, jobs]; rfl, .of_jobs jobs⟩

theorem of_link (h : LinkSide s t) : PassData s t := of_parts h.targets h.jobs

theorem trans (h : PassData s t) (g : PassData t u) : PassData s u :=
  ⟨g.targets.trans h.targets, fun j => (g.defn j).trans (h.defn j), h.use.trans g.use⟩

end PassData

/-- Commands that change a target, a job's definition or the jobs in use. -/
def changesPassData : Instr → Bool
  | .targetSet | .jobDefine | .jobRelease => true
  | i => mayReset i || mayChoose i

/-- A command that does not choose brings no job into use. -/
theorem EngineMove.use_of_noChoice {s t : State} (h : EngineMove false s t) : UseBut none s t := by
  rcases h.use with use | ⟨_, choice, -⟩
  · exact use
  · cases choice

theorem Move.passData {i : Instr} {s t : State} (h : Move i s t) (hi : changesPassData i = false) : PassData s t := by
  have hreset : ¬ mayReset i = true := by cases i <;> simp_all [changesPassData]
  have hchoose : mayChoose i = false := by cases i <;> simp_all [changesPassData]
  cases h with
  | link _ h => exact .of_link h.side
  | engine _ h => rw [hchoose] at h; exact ⟨h.side.targets, h.side.defn, h.use_of_noChoice⟩
  | unclaim p _ _ _ r =>
    exact PassData.trans (t := { s with claim := none }) (.of_parts rfl rfl) (.of_link (State.reply_side _ p r .ok []))
  | abort c =>
    exact PassData.trans (t := s.setMem (s.stopEngine c).mem) (.of_parts rfl rfl)
      ⟨(s.abortChannel_side c).targets, (s.abortChannel_side c).defn, s.abortChannel_use c⟩
  | target _ _ _ _ _ may => cases may; cases hi
  | define _ _ _ _ _ may => cases may; cases hi
  | release _ _ may => cases may; cases hi
  | reset _ _ may => exact absurd may hreset
  | powerOn may => exact absurd may hreset
  | _ => exact .of_parts rfl rfl

theorem Moves.passData {i : Instr} {s t : State} (hi : changesPassData i = false) (h : Moves i s t) : PassData s t := by
  induction h with
  | refl => exact .of_link (.refl s)
  | tail _ hmove ih => exact ih.trans (hmove.passData hi)

/-! ### The commands that change what passes use -/

/-- What passes use is fixed while they use it: the targets in use, the active windows of the jobs in use, the definitions of
the jobs READY or in use. -/
structure PassDataFixed (s t : State) : Prop where
  target : ∀ n, s.targetInUse n = true → t.targetInUse n = true → t.target n = s.target n
  active : ∀ j, (s.job j).rt.state.inUse = true → (t.job j).rt.state.inUse = true →
    (t.job j).rt.active = (s.job j).rt.active
  defn : ∀ j, (s.job j).rt.state = .ready ∨ (s.job j).rt.state.inUse = true → (t.job j).defn = (s.job j).defn ∨ t.job j = .free

namespace PassDataFixed

variable {s t u : State}

theorem of_passData (h : PassData s t) : PassDataFixed s t where
  target n _ _ := by rw [State.target, h.targets]; rfl
  active j _ hu := (h.use j nofun hu).2
  defn j _ := .inl (h.defn j)

theorem of_link (h : LinkSide s t) : PassDataFixed s t := of_passData (.of_link h)

theorem congr (h : PassDataFixed s t) (targets : u.targets = t.targets) (jobs : u.jobs = t.jobs) : PassDataFixed s u := by
  have hjob : u.job = t.job := by funext j; rw [State.job, jobs]; rfl
  have htarget : u.target = t.target := by funext n; rw [State.target, targets]; rfl
  have huse : u.targetInUse = t.targetInUse := by funext n; simp only [State.targetInUse, hjob]
  refine ⟨?_, ?_, ?_⟩
  · rw [huse, htarget]; exact h.target
  · rw [hjob]; exact h.active
  · rw [hjob]; exact h.defn

theorem then_link (h : PassDataFixed s t) (side : LinkSide t u) : PassDataFixed s u := h.congr side.targets side.jobs

/-- After a reset no job is in use. -/
theorem of_free (h : t.jobs = Vector.replicate 64 .free) : PassDataFixed s t where
  target n _ hu := by
    obtain ⟨j, d, hd, -⟩ := State.targetInUse_iff.mp hu
    rw [State.job_of_free h] at hd; cases hd
  active j _ hu := by rw [State.job_of_free h] at hu; cases hu
  defn j _ := .inr (State.job_of_free h j)

theorem setTarget {n : Fin 16} {f : Profile} (unused : s.targetInUse n = false) : PassDataFixed s (s.setTarget n f) where
  target m hs _ := by
    have hne : n ≠ m := by rintro rfl; rw [unused] at hs; cases hs
    exact State.target_setTarget_ne _ hne _
  active _ _ _ := rfl
  defn _ _ := .inl rfl

theorem setJob {j : Fin 64} {x : Job} (unused : (s.job j).rt.state.inUse = false) (ready : (s.job j).rt.state ≠ .ready) :
    PassDataFixed s (s.setJob j x) where
  target _ _ _ := rfl
  active k hu _ := by rw [State.job_setJob_ne _ (by rintro rfl; rw [unused] at hu; cases hu)]
  defn k hk := .inl <| by
    rw [State.job_setJob_ne]
    rintro rfl
    rcases hk with hk | hk
    · exact ready hk
    · rw [unused] at hk; cases hk

end PassDataFixed

/-! ### One command each -/

section
variable {s t : State} {i : Instr}

theorem PassDataFixed.serve {code : Byte} {body : Fin 4 → Request → State} (h : ∀ p r, PassDataFixed s (body p r))
    (e : s.serve code body = .next t) : PassDataFixed s t := by
  obtain ⟨t', e', cases⟩ := s.serve_next code body
  cases e.symm.trans e'
  rcases cases with rfl | ⟨p, r, -, -, ⟨-, rfl⟩ | rfl⟩
  · exact .of_link (.refl t)
  · exact (h p r).then_link (State.uartBoundary_side _)
  · exact .of_link ((s.answered_side _ _ _ _).trans (State.uartBoundary_side _))

theorem PassDataFixed.serveJob {code : Byte} {body : Fin 4 → Request → Fin 64 → State}
    (h : ∀ p r j, PassDataFixed s (body p r j)) (e : s.serveJob code body = .next t) : PassDataFixed s t := by
  refine .serve (fun p r => ?_) e
  split
  · exact .of_link (s.reply_side _ _ _ _)
  · exact h p r _

theorem passDataFixed_targetSet (e : execTargetSet s = .next t) : PassDataFixed s t := by
  refine .serve (fun p r => ?_) e
  split
  · split
    · exact .of_link (s.reply_side _ _ _ _)
    · rename_i hunused
      exact (PassDataFixed.setTarget (Bool.eq_false_iff.mpr hunused)).then_link (State.reply_side _ _ _ _ _)
  · exact .of_link (s.reply_side _ _ _ _)

theorem passDataFixed_jobDefine (e : execJobDefine s = .next t) : PassDataFixed s t := by
  refine .serveJob (fun p r j => ?_) e
  dsimp only
  split
  · exact .of_link (s.reply_side _ _ _ _)
  · have still : (s.job j).rt.state = .free ∨ (s.job j).rt.state = .armed → ∀ x, PassDataFixed s (s.setJob j x) := by
      rintro (h | h) x <;> exact .setJob (by simp [h, JobState.inUse]) (by simp [h])
    split
    · exact (still (.inl ‹_›) _).then_link (State.reply_side _ _ _ _ _)
    · exact (still (.inr ‹_›) _).then_link (State.reply_side _ _ _ _ _)
    all_goals exact .of_link (s.reply_side _ _ _ _)

theorem passDataFixed_jobRelease (e : execJobRelease s = .next t) : PassDataFixed s t := by
  refine .serveJob (fun p r j => ?_) e
  have still : (s.job j).rt.state = .armed ∨ (s.job j).rt.state = .halted → PassDataFixed s (s.setJob j .free) := by
    rintro (h | h) <;> exact .setJob (by simp [h, JobState.inUse]) (by simp [h])
  split
  · exact (still (.inl ‹_›)).then_link (State.reply_side _ _ _ _ _)
  · exact (still (.inr ‹_›)).then_link (State.reply_side _ _ _ _ _)
  all_goals exact .of_link (s.reply_side _ _ _ _)

/-- The job a choice dispatches keeps its active window, and so does every other one. -/
theorem passDataFixed_choose (s : State) (c : Fin 4) : PassDataFixed s (s.choose c) := by
  refine ⟨fun n _ _ => ?_, fun j _ hu => ?_, fun j _ => .inl ((s.choose_side c).defn j)⟩
  · rw [State.target, (s.choose_side c).targets]; rfl
  · rcases s.choose_cases c with e | ⟨k, e⟩ | ⟨k, -, e, -⟩ <;> rw [e] at hu ⊢
    · exact (s.resume_use c k j nofun hu).2
    · by_cases hk : some j = some k
      · cases hk; exact (s.dispatch_use c j).2 hu
      · exact ((s.dispatch_use c k).1 j hk hu).2

theorem passDataFixed_freshChoice {c : Fin 4} (e : execFreshChoice c s = .next t) : PassDataFixed s t := by
  have noted : PassDataFixed s (s.setArb c { s.arb c with choiceDue := false }) := .of_passData (.of_parts rfl rfl)
  have chosen : PassDataFixed s ((s.setArb c { s.arb c with choiceDue := false }).choose c) :=
    have h := passDataFixed_choose (s.setArb c { s.arb c with choiceDue := false }) c
    ⟨h.target, h.active, h.defn⟩
  unfold execFreshChoice at e
  split at e
  · split at e <;> cases e
    · exact chosen.then_link (State.uartBoundary_side _)
    · exact noted.then_link (State.uartBoundary_side _)
  · cases e; exact .of_link (.refl s)

theorem passDataFixed_rstnLow (e : execRstnLow s = .next t) : PassDataFixed s t := by
  unfold execRstnLow at e
  split at e
  · cases e; exact .of_link (.refl s)
  · split at e <;> cases e
    · exact .of_free s.powerOn_jobs
    · exact .of_passData (.of_parts rfl rfl)

theorem passDataFixed_coreClockReturns (e : execCoreClockReturns s = .next t) : PassDataFixed s t := by
  unfold execCoreClockReturns at e
  split at e
  · cases e; exact .of_link (.refl s)
  · split at e <;> cases e
    · exact .of_free s.powerOn_jobs
    · have running : PassDataFixed s { s with clock := true } := .of_passData (.of_parts rfl rfl)
      exact running.then_link (State.uartBoundary_side _)

theorem passDataFixed_slotSent (s : State) (k : Slot) : PassDataFixed s (s.slotSent k) := by
  rcases s.slotSent_cases k with side | ⟨u, -, e⟩
  · exact .of_link side
  · rw [e]; exact .of_free u.resetRequest_jobs

theorem passDataFixed_uartByteSent (e : execUartByteSent s = .next t) : PassDataFixed s t := by
  unfold execUartByteSent at e
  split at e <;> cases e
  · exact (passDataFixed_slotSent s .frameByte).then_link (State.uartBoundary_side _)
  · exact .of_link (.refl s)

/-- A byte received before the byte sent: the reset, if one comes, is last. -/
theorem passDataFixed_rxByte_slotSent (s : State) (b : Byte) (k : Slot) : PassDataFixed s ((s.rxByte b).slotSent k) := by
  rcases (s.rxByte b).slotSent_cases k with side | ⟨u, -, e⟩
  · exact .of_link ((s.rxByte_side b).trans side)
  · rw [e]; exact .of_free u.resetRequest_jobs

theorem passDataFixed_spiByteComplete {b : Byte} {outFirst : Bool} (e : execSpiByteComplete b outFirst s = .next t) :
    PassDataFixed s t := by
  unfold execSpiByteComplete at e
  split at e
  · cases e; exact .of_link (.refl s)
  · split at e
    · cases e; exact .of_link (.refl s)
    · split at e
      · cases e; exact .of_link s.slotStart_side
      · split at e <;> cases e
        · exact ((passDataFixed_slotSent s _).then_link (State.rxByte_side _ b)).then_link (State.slotStart_side _)
        · exact (passDataFixed_rxByte_slotSent s b _).then_link (State.slotStart_side _)

/-- RSTN_RISE leaves jobs and targets as they are. -/
theorem execRstnRise_next {n : Nat} {m a b : Bool} (e : execRstnRise n m a b s = .next t) :
    t.targets = s.targets ∧ t.jobs = s.jobs ∧ t.pending = s.pending ∧ t.mem = s.mem := by
  unfold execRstnRise at e
  split at e
  · cases e; exact ⟨rfl, rfl, rfl, rfl⟩
  · split at e <;> cases e
    exact ⟨rfl, rfl, rfl, rfl⟩

theorem exec_passDataFixed (e : exec i s = .next t) : PassDataFixed s t := by
  cases hi : changesPassData i with
  | false =>
    by_cases hrise : ∀ n m a b, i ≠ .rstnRise n m a b
    · exact .of_passData ((exec_moves hrise e).passData hi)
    · push Not at hrise
      obtain ⟨n, m, a, b, rfl⟩ := hrise
      obtain ⟨targets, jobs, -, -⟩ := execRstnRise_next e
      exact .of_passData (.of_parts targets jobs)
  | true =>
    cases i with
    | targetSet => exact passDataFixed_targetSet e
    | jobDefine => exact passDataFixed_jobDefine e
    | jobRelease => exact passDataFixed_jobRelease e
    | freshChoice c => exact passDataFixed_freshChoice e
    | rstnLow => exact passDataFixed_rstnLow e
    | coreClockReturns => exact passDataFixed_coreClockReturns e
    | uartByteSent => exact passDataFixed_uartByteSent e
    | spiByteComplete b o => exact passDataFixed_spiByteComplete e
    | _ => cases hi

end
end Sys2Proof.Machine

namespace Sys2Proof
open Sys2Proof.Machine

/-- Settles O13: no move touches the queue or the straps, and memory is written by accesses, stops of engines and start-up
alone. -/
theorem queueStrapsAndMemory : Obligations.QueueStrapsAndMemory := by
  intro i s t e
  by_cases hrise : ∀ n m a b, i ≠ .rstnRise n m a b
  · obtain ⟨pending, straps, mem⟩ := (exec_moves hrise e).fixedParts
    exact ⟨pending, fun _ => straps, mem⟩
  · push Not at hrise
    obtain ⟨n, m, a, b, rfl⟩ := hrise
    obtain ⟨-, -, pending, mem⟩ := execRstnRise_next e
    exact ⟨pending, fun h => absurd rfl (h n m a b), fun _ => mem⟩

/-- Settles O12: TARGET_SET, JOB_DEFINE and JOB_RELEASE refuse what is in use, a choice keeps the windows, and a reset leaves no
job; no other command touches targets or definitions or brings a job into use. -/
theorem passDataStaysFixed : Obligations.PassDataStaysFixed := fun _ _ _ e =>
  have h := exec_passDataFixed e
  ⟨h.target, h.active, h.defn⟩

end Sys2Proof
end

section
/-! SUPPORT. Which commands go on (O3): all but RSTN_RISE and MEMORY_GRANT always, and a grant whose address exists; an access
of the interpreter lies in its range (R56, R61), one of an engine in a window of its pass (R50, R86). -/
namespace Sys2Proof.Machine

/-- The command has a next state. -/
def GoesOn (o : Host.Outcome State Fault Refusal) : Prop := ∃ t, o = .next t

namespace GoesOn

variable {s : State}

theorem next (t : State) : GoesOn (.next t) := ⟨t, rfl⟩

theorem done (t : State) : GoesOn t.done := next _

theorem ite {p : Prop} [Decidable p] {a b : Host.Outcome State Fault Refusal} (ha : GoesOn a) (hb : GoesOn b) :
    GoesOn (if p then a else b) := by
  split
  · exact ha
  · exact hb

theorem serve (code : Byte) (body : Fin 4 → Request → State) : GoesOn (s.serve code body) :=
  have ⟨t, e, _⟩ := s.serve_next code body
  ⟨t, e⟩

theorem engineEvent (c : Fin 4) (can : Bool) (f : Pass → State) : GoesOn (s.engineEvent c can f) :=
  have ⟨t, e, _⟩ := s.engineEvent_next c can f
  ⟨t, e⟩

/-- A request command serves its code. -/
theorem request {i : Instr} {code : Byte} (h : requestCode i = some code) : GoesOn (exec i s) := by
  obtain ⟨body, hexec⟩ := exec_eq_serve h
  rw [hexec]
  exact serve code _

theorem unknownRequestType : GoesOn (execUnknownRequestType s) := by
  unfold execUnknownRequestType
  split
  · exact next s
  · exact .ite (next s) (done _)

theorem memWriteDone : GoesOn (execMemWriteDone s) := by
  unfold execMemWriteDone
  split
  · split
    · exact .ite (done _) (next s)
    all_goals exact next s
  all_goals exact next s

theorem memReadDone : GoesOn (execMemReadDone s) := by
  unfold execMemReadDone
  split
  · split
    · exact .ite (done _) (next s)
    all_goals exact next s
  all_goals exact next s

theorem timerExpiry (n : Fin 4) : GoesOn (execTimerExpiry n s) := by
  unfold execTimerExpiry
  split
  · exact done _
  · exact next s

theorem spiByteComplete (b : Byte) (outFirst : Bool) : GoesOn (execSpiByteComplete b outFirst s) := by
  unfold execSpiByteComplete
  split
  · exact next s
  · exact .ite (next _) (.ite (next _) (.ite (next _) (next _)))

/-- All commands but two always have a next state. -/
theorem exec {i : Instr} (hrise : ∀ n m a b, i ≠ .rstnRise n m a b) (hgrant : i ≠ .memoryGrant) : GoesOn (exec i s) := by
  cases i with
  | rstnRise n m a b => exact absurd rfl (hrise n m a b)
  | memoryGrant => exact absurd rfl hgrant
  | identify | status | reset | noticeControl | targetSet | targetGet | memWrite | memRead | jobDefine | jobGet | jobStatus
  | jobRelease | jobStart | jobCancel | jobClear | jobSwap | channelHold | channelAbort | timerSet | lineSet =>
    exact request rfl
  | selectAssertion c | leadEnd c | busyReady c | busyTimeout c | byteEnd c b | lastBitArrived c b | gapEnd c
  | unitEndComplete c | lagEnd c | pollIntervalEnd c => exact engineEvent c _ _
  | rstnLow => exact .ite (next s) (.ite (next _) (next _))
  | startUpClearComplete trg busy => exact .ite (done _) (next s)
  | uartCharacterComplete b high => exact .ite (done _) (next s)
  | silenceAbort => exact .ite (done _) (next s)
  | lselnFall => exact .ite (next s) (.ite (next _) (next _))
  | lselnRise => exact .ite (next s) (.ite (next _) (next _))
  | spiByteComplete b o => exact spiByteComplete b o
  | uartByteSent => exact .ite (done _) (next s)
  | unknownRequestType => exact unknownRequestType
  | memWriteDone => exact memWriteDone
  | memReadDone => exact memReadDone
  | timerExpiry n => exact timerExpiry n
  | lineEdge n level => exact .ite (.ite (done _) (done _)) (next s)
  | freshChoice c => exact .ite (.ite (done _) (done _)) (next s)
  | coreClockStops => exact next _
  | coreClockReturns => exact .ite (next s) (.ite (next _) (done _))
  | busyLevelSeen c high => exact .ite (done _) (next s)

end GoesOn

/-! ### Grants -/

variable {s : State}

/-- A grant has a next state or finds no such address. -/
def GrantOutcome (o : Host.Outcome State Fault Refusal) : Prop := GoesOn o ∨ o = .fault .noSuchAddress

theorem access_outcome (a : Nat) (f : State) : GrantOutcome (access a f) := by
  unfold access
  split
  · exact .inl (.done f)
  · exact .inr rfl

theorem State.grantEngine_outcome (s : State) (c : Fin 4) : GrantOutcome (s.grantEngine c) := by
  unfold State.grantEngine
  split
  · exact .inl (.next s)
  · split
    · exact .inl (.next s)
    · unfold State.grantRead
      dsimp only
      split
      · exact access_outcome _ _
      · exact access_outcome _ _
      · exact .inl (.done _)
    · exact access_outcome _ _

theorem State.grantInterp_outcome (s : State) : GrantOutcome s.grantInterp := by
  unfold State.grantInterp
  split
  · exact access_outcome _ _
  · exact access_outcome _ _
  all_goals exact .inl (.next s)

theorem execMemoryGrant_outcome (s : State) : GrantOutcome (execMemoryGrant s) := by
  unfold execMemoryGrant
  split
  · dsimp only
    split
    · exact State.grantEngine_outcome _ _
    · exact State.grantInterp_outcome _
  · exact .inl (.next s)

/-- R56, R61: an access of the interpreter lies in the range checked when the request was carried out. -/
theorem State.grantInterp_goesOn (hclaim : s.claimMatches) (asking : s.asking 4 = true) : GoesOn s.grantInterp := by
  rcases State.asking_interp.mp asking with ⟨p, a, data, n, hi, hn⟩ | ⟨p, a, n, got, hi, hn⟩
  · simp only [State.claimMatches, hi, inMemory_iff] at hclaim
    simp only [State.grantInterp, hi]
    exact ⟨_, access_of_lt (by omega) _⟩
  · simp only [State.claimMatches, hi, inMemory_iff] at hclaim
    simp only [State.grantInterp, hi]
    exact ⟨_, access_of_lt (by omega) _⟩

/-- The second window of a lawful definition is in bounds, as long as the first. -/
theorem JobDef.winB_of_lawful {d : JobDef} {w : Window} (h : d.lawful = true) (hw : d.winB = some w) :
    w.inBounds = true ∧ w.len = d.winA.len := by
  refine ⟨(JobDef.inBounds_of_lawful h).2 w hw, ?_⟩
  simp only [JobDef.lawful, Bool.and_eq_true, windowRules, hw, decide_eq_true_eq] at h
  obtain ⟨⟨-, ⟨hlen, -⟩, -⟩, -⟩ := h
  exact hlen

theorem JobDef.activeWindow_of_lawful {d : JobDef} (h : d.lawful = true) (sel : WinSel) :
    (activeWindow d sel).inBounds = true ∧ (activeWindow d sel).len = d.winA.len := by
  unfold activeWindow
  split
  · exact JobDef.winB_of_lawful h ‹_›
  · exact ⟨(JobDef.inBounds_of_lawful h).1, rfl⟩

/-- R50: a position below the length of window A has its address in memory. -/
theorem State.readAddr_lt {x : Pass} {k : Nat} (h : x.defn.lawful = true) (hkind : x.defn.kind ≠ .receive)
    (hk : k < x.defn.winA.len) : s.readAddr x k < 8192 := by
  have hA := Window.inBounds_iff.mp (JobDef.inBounds_of_lawful h).1
  rw [State.readAddr_eq]
  split
  · obtain ⟨hin, hlen⟩ := JobDef.activeWindow_of_lawful h (s.job x.job).rt.active
    have := Window.inBounds_iff.mp hin
    omega
  · omega
  · omega
  · exact absurd ‹_› hkind

/-- R50: the progress of a job with a byte to store is below the length of its windows. -/
theorem State.storeAddr_lt {x : Pass} (h : x.defn.lawful = true) (hkind : x.defn.kind.stores = true)
    (hprogress : (s.job x.job).rt.progress < x.defn.winA.len) : s.storeAddr x < 8192 := by
  rw [State.storeAddr_eq]
  split
  · obtain ⟨hin, hlen⟩ := JobDef.activeWindow_of_lawful h (s.job x.job).rt.active
    have := Window.inBounds_iff.mp hin
    omega
  · obtain ⟨hin, hlen⟩ := JobDef.winB_of_lawful h ‹_›
    have := Window.inBounds_iff.mp hin
    omega
  · rename_i hreceive hexchange
    have hwinB : x.defn.kind = .exchange → x.defn.winB ≠ none := by
      intro he hnone
      simp [JobDef.lawful, windowRules, hnone, he] at h
    cases hk : x.defn.kind with
    | receive => exact absurd hk hreceive
    | exchange =>
      obtain ⟨w, hw⟩ := Option.ne_none_iff_exists'.mp (hwinB hk)
      exact absurd hw (hexchange w hk)
    | send | poll => rw [hk] at hkind; cases hkind

/-- A byte that waits for its store is not counted yet, and is a byte of the window. -/
theorem Engine.Lawful.progress_lt {e : Engine} {d : JobDef} {r : Runtime} (h : e.Lawful d r) (hstore : e.storeWaiting ≠ none) :
    r.progress < d.winA.len := by
  obtain ⟨hstores, -, howed⟩ := h.store hstore
  have hpoll : d.kind ≠ .poll := by intro hk; rw [hk] at hstores; cases hstores
  rcases howed with howed | ⟨hshift, hended, -⟩
  · have := h.bytes hpoll
    simp only [Engine.bytesShifted, howed, if_true] at this
    omega
  · have := h.byteLeft hpoll (.inr (.inl hshift)) hended
    simp only [Engine.bytesShifted] at this
    omega

theorem State.grantRead_goesOn {x : Pass} (rest : List Ask) (h : x.defn.lawful = true)
    (he : (s.eng x.chan).Lawful x.defn (s.job x.job).rt) : GoesOn (s.grantRead x rest) := by
  have hlt : ∀ k, (s.eng x.chan).cur = .waiting k ∨ (s.eng x.chan).nxt = .waiting k → s.readAddr x k < 8192 := fun k hk =>
    have ⟨hkind, hpos⟩ := he.read k hk
    State.readAddr_lt h hkind hpos
  unfold State.grantRead
  dsimp only
  split
  · exact ⟨_, access_of_lt (hlt _ (.inl ‹_›)) _⟩
  · exact ⟨_, access_of_lt (hlt _ (.inr ‹_›)) _⟩
  · exact .done _

/-- Every access of a lawful pass has an address. -/
theorem State.grantEngine_goesOn (hdefs : s.definitionsLawful) (hpasses : s.PassesLawful) (c : Fin 4) :
    GoesOn (s.grantEngine c) := by
  unfold State.grantEngine
  split
  · exact .next s
  · rename_i x hx
    obtain ⟨hjob, rfl, hdefn, -⟩ := pass?_iff.mp hx
    have he := hpasses.engine _ _ _ hjob hdefn
    have hlawful := hdefs _ _ hdefn
    split
    · exact .next s
    · exact State.grantRead_goesOn _ hlawful he
    · rename_i b rest hasks
      have hstore : (s.eng x.chan).storeWaiting ≠ none := by
        rw [Engine.storeWaiting, hasks, List.findSome?_cons_of_isSome (by rfl)]; simp
      exact ⟨_, access_of_lt (State.storeAddr_lt hlawful (he.store hstore).1 (he.progress_lt hstore)) _⟩

end Sys2Proof.Machine

namespace Sys2Proof
open Sys2Proof.Machine

/-- Settles O3: the guards of the commands decide between next states; a grant alone checks an address, which a request's range
or a lawful pass's window holds. -/
theorem onlyTwoCommandsStop : Obligations.OnlyTwoCommandsStop := by
  refine ⟨fun i s hrise hgrant => GoesOn.exec hrise hgrant, execMemoryGrant_outcome, fun s hclaim hq => ?_,
    fun s hclaim hdefs hpasses => ?_⟩
  · have asking := State.asking_of_nextRequester hq
    cases hl : s.live with
    | false => exact ⟨s, by simp only [exec, execMemoryGrant, hl]⟩
    | true =>
      rw [execMemoryGrant_interp hl hq]
      exact State.grantInterp_goesOn (s := { s with rotation := 4 }) hclaim asking
  · change GoesOn (execMemoryGrant s)
    unfold execMemoryGrant
    split
    · rename_i q hl hq
      dsimp only
      split
      · exact State.grantEngine_goesOn (s := { s with rotation := q }) hdefs ⟨hpasses.progress, hpasses.suspended, hpasses.engine⟩ _
      · have hinterp : q = 4 := Fin.ext (by have := q.2; simp; omega)
        subst hinterp
        exact State.grantInterp_goesOn (s := { s with rotation := 4 }) hclaim (State.asking_of_nextRequester (s := s) hq)
    · exact .next s

end Sys2Proof
end

section
/-! SUPPORT. The model's own frame: the state after power-on, one core clock with nothing queued, and the commands of events
that cannot occur as things stand. -/
namespace Sys2Proof.Machine

/-! ### The first state -/

theorem State.reset_job (j : Fin 64) : State.reset.job j = .free := State.job_of_free rfl j

theorem State.reset_eng (c : Fin 4) : State.reset.eng c = .powerOn := by simp [State.eng, State.reset]

theorem State.reset_arb (c : Fin 4) : State.reset.arb c = .powerOn := by simp [State.arb, State.reset]

theorem State.reset_timer (n : Fin 4) : State.reset.timer n = .powerOn := by simp [State.timer, State.reset]

theorem State.reset_target (n : Fin 16) : State.reset.target n = .default := by simp [State.target, State.reset]

/-- No job, no pass and no suspended job. -/
theorem State.coherent_reset : State.reset.Coherent where
  idle c := by simp [State.reset_eng, Engine.powerOn]
  engineJob c j h := by rw [State.reset_eng] at h; cases h
  slotJob c j h := by rw [State.reset_arb] at h; cases h
  running j h := by rw [State.reset_job] at h; cases h
  suspended j h := by rw [State.reset_job] at h; cases h
  free j := by simp [State.reset_job, Job.free, Runtime.free]
  urgent c j k h := by rw [State.reset_eng] at h; cases h
  suspending c j h := by rw [State.reset_eng] at h; cases h

theorem State.passesLawful_reset : State.reset.PassesLawful where
  progress j d h := by rw [State.reset_job] at h; cases h
  suspended j d h := by rw [State.reset_job] at h; cases h
  engine c j d h := by rw [State.reset_eng] at h; cases h

/-! ### One core clock -/

variable {s : State}

theorem State.timer_countDown (s : State) (n : Fin 4) :
    s.countDown.timer n = (s.timer n).afterClock (decide (32 ≤ s.usPhase + 1)) := by
  simp [State.countDown, State.timer, Config.clocksPerTick]

theorem State.eng_countDown (s : State) (c : Fin 4) :
    s.countDown.eng c = (s.eng c).afterClock (decide (32 ≤ s.usPhase + 1)) := by
  simp [State.countDown, State.eng, Config.clocksPerTick]

/-- An interval at 0 stays there, so that whether it counts matters at the ticks alone. -/
theorem Engine.afterClock_eq (e : Engine) (tick : Bool) : e.afterClock tick =
    { e with interval := if e.state.countsTicks = true ∧ tick = false then e.interval else e.interval - 1 } := by
  have hcounts : e.counts tick = true ↔ 0 < e.interval ∧ ¬ (e.state.countsTicks = true ∧ tick = false) := by
    cases htick : tick <;> cases hstate : e.state.countsTicks <;> simp [Engine.counts, hstate]
  simp only [Engine.afterClock, hcounts]
  by_cases hwaits : e.state.countsTicks = true ∧ tick = false
  · rw [if_neg (fun h => h.2 hwaits), if_pos hwaits]
  · rw [if_neg hwaits]
    by_cases hpos : 0 < e.interval
    · rw [if_pos ⟨hpos, hwaits⟩]
    · have hzero : e.interval - 1 = e.interval := by omega
      rw [if_neg (fun h => hpos h.1), hzero]

theorem Timer.runsOut_eq_some {t : Timer} {n : Fin 4} {tick : Bool} {i : Instr} :
    t.runsOut n tick = some i ↔ i = .timerExpiry n ∧ tick = true ∧ t.count = some 1 := by
  have hends : (tick && decide (t.count = some 1)) = true ↔ tick = true ∧ t.count = some 1 := by
    rw [Bool.and_eq_true, decide_eq_true_eq]
  rw [Timer.runsOut, ← hends]
  split
  · simp [*, eq_comm (a := i)]
  · simp [*]

theorem Engine.runsOut_eq_some {e : Engine} {c : Fin 4} {tick : Bool} {i : Instr} :
    e.runsOut c tick = some i ↔ e.endCommand c = some i ∧ e.interval = 1 ∧ (tick = true ∨ e.state.countsTicks = false) := by
  have hcounts : (e.counts tick && decide (e.interval = 1)) = true ↔
      e.interval = 1 ∧ (tick = true ∨ e.state.countsTicks = false) := by
    simp only [Engine.counts, Bool.and_eq_true, decide_eq_true_eq, Bool.or_eq_true, Bool.not_eq_true']
    exact ⟨fun ⟨⟨_, hticks⟩, hone⟩ => ⟨hone, hticks⟩, fun ⟨hone, hticks⟩ => ⟨⟨by omega, hticks⟩, hone⟩⟩
  rw [Engine.runsOut, ← hcounts]
  split
  · simp [*]
  · simp [*]

theorem State.mem_runOuts {tick : Bool} {i : Instr} : i ∈ s.runOuts tick ↔
    (∃ n, i = .timerExpiry n ∧ tick = true ∧ (s.timer n).count = some 1) ∨
      (∃ c, (s.eng c).endCommand c = some i ∧ (s.eng c).interval = 1 ∧ (tick = true ∨ (s.eng c).state.countsTicks = false)) ∨
      (i = .uartByteSent ∧ s.link.txClocks = 1) := by
  have huart : i ∈ (if s.link.txClocks = 1 then [Instr.uartByteSent] else []) ↔ i = .uartByteSent ∧ s.link.txClocks = 1 := by
    split <;> simp_all
  have hall : ∀ n : Fin 4, n ∈ allChannels := by decide
  rw [State.runOuts, List.mem_append, List.mem_append, huart]
  simp only [List.mem_filterMap, hall, true_and, Timer.runsOut_eq_some, Engine.runsOut_eq_some, or_assoc]

/-! ### Events that do not occur -/

theorem State.engineEvent_of_not {c : Fin 4} {can : Bool} {f : Pass → State} (h : s.timed = false ∨ can = false) :
    s.engineEvent c can f = .next s := by
  unfold State.engineEvent
  rcases h with h | h <;> simp [h]

theorem State.serve_of_ne {code : Byte} {body : Fin 4 → Request → State}
    (h : ∀ p r, s.current = some (p, r) → r.typ ≠ code) : s.serve code body = .next s := by
  unfold State.serve
  split
  · rfl
  · rename_i p r hc
    exact if_pos (h p r hc)

theorem execUnknownRequestType_of_known (h : ∀ p r, s.current = some (p, r) → r.typ ∈ requestCodes) :
    execUnknownRequestType s = .next s := by
  unfold execUnknownRequestType
  split
  · rfl
  · rename_i p r hc
    exact if_pos (by simpa using h p r hc)

theorem Engine.byteCanEnd_eq_false {e : Engine} (h : e.state ≠ .shift ∨ e.ended = true ∨ (∃ k, e.cur = .waiting k) ∨
    (e.inByte = none ∧ e.storeWaiting ≠ none)) : e.byteCanEnd = false := by
  unfold Engine.byteCanEnd
  rcases h with h | h | ⟨k, h⟩ | ⟨hin, hstore⟩
  · simp [h]
  · simp [h]
  · simp [h, OutByte.here]
  · simp [hin, hstore, Option.isNone_eq_false_iff, Option.isSome_iff_ne_none]

theorem execSpiByteComplete_of_not {b : Byte} {l : Bool}
    (h : s.spi.slot = none ∨ s.straps.spi = false ∨ s.rstnLow = true ∨ s.phase = .held) :
    exec (.spiByteComplete b l) s = .next s := by
  simp only [exec, execSpiByteComplete]
  split
  · rfl
  · rename_i k hk
    rw [if_pos]
    rcases h with h | h | h | h
    · rw [hk] at h; cases h
    all_goals simp [h]

theorem execMemoryGrant_of_not (h : s.live = false ∨ s.nextRequester = none) : exec .memoryGrant s = .next s := by
  simp only [exec, execMemoryGrant]
  split
  · rename_i q hl hq
    rcases h with h | h
    · rw [h] at hl; cases hl
    · rw [h] at hq; cases hq
  · rfl

theorem execMemWriteDone_of_not
    (h : s.live = false ∨ ∀ p a data n, s.interp = .executing p (.writing a data n) → n < data.length) :
    exec .memWriteDone s = .next s := by
  simp only [exec, execMemWriteDone]
  split
  · rename_i p a data n hi
    have hnot : ¬ (s.live && decide (data.length ≤ n)) = true := by
      rcases h with h | h
      · simp [h]
      · simp [h p a data n hi]
    split
    · exact if_neg hnot
    all_goals rfl
  all_goals rfl

theorem execMemReadDone_of_not
    (h : s.live = false ∨ ∀ p a n got, s.interp = .executing p (.reading a n got) → got.length < n) :
    exec .memReadDone s = .next s := by
  simp only [exec, execMemReadDone]
  split
  · rename_i p a n got hi
    have hnot : ¬ (s.live && decide (n ≤ got.length)) = true := by
      rcases h with h | h
      · simp [h]
      · simp [h p a n got hi]
    split
    · exact if_neg hnot
    all_goals rfl
  all_goals rfl

/-- The character and byte events of the UART, in SPI mode or with no interval running. -/
theorem uartEvents_of_not {b : Byte} {l : Bool} (h : s.timed = false ∨ s.straps.spi = true) :
    exec (.uartCharacterComplete b l) s = .next s ∧ exec .silenceAbort s = .next s ∧ exec .uartByteSent s = .next s := by
  have hnot : ¬ (s.timed && !s.straps.spi) = true := by rcases h with h | h <;> simp [h]
  exact ⟨if_neg hnot, if_neg hnot, if_neg hnot⟩

theorem inputEvents_of_not {c : Fin 4} {l : Bool} (h : s.timed = false) :
    exec (.lineEdge c l) s = .next s ∧ exec (.busyLevelSeen c l) s = .next s :=
  have hnot : ¬ s.timed = true := by simp [h]
  ⟨if_neg hnot, if_neg hnot⟩

theorem execFreshChoice_of_not {c : Fin 4} (h : s.live = false ∨ (s.arb c).choiceDue = false) :
    exec (.freshChoice c) s = .next s :=
  if_neg (by rcases h with h | h <;> simp [h])

/-! ### Engine events that do not occur -/

section
variable {c : Fin 4} {b : Byte}

theorem selectAssertion_of_not (h : s.timed = false ∨ (s.eng c).state ≠ .lead ∨ (s.eng c).asserted = true) :
    exec (.selectAssertion c) s = .next s :=
  State.engineEvent_of_not (by simpa only [Bool.and_eq_false_iff, decide_eq_false_iff_not, Bool.not_eq_false'] using h)

theorem leadEnd_of_not (h : s.timed = false ∨ (s.eng c).state ≠ .lead ∨ (s.eng c).asserted = false) :
    exec (.leadEnd c) s = .next s :=
  State.engineEvent_of_not (by simpa only [Bool.and_eq_false_iff, decide_eq_false_iff_not] using h)

theorem busyEvents_of_not (h : s.timed = false ∨ (s.eng c).state ≠ .busyWait) :
    exec (.busyReady c) s = .next s ∧ exec (.busyTimeout c) s = .next s :=
  have hnot : s.timed = false ∨ decide ((s.eng c).state = .busyWait) = false := by simpa only [decide_eq_false_iff_not] using h
  ⟨State.engineEvent_of_not hnot, State.engineEvent_of_not hnot⟩

theorem byteEvents_of_not (h : s.timed = false ∨ (s.eng c).state ≠ .shift ∨ (s.eng c).ended = true ∨
    (∃ k, (s.eng c).cur = .waiting k) ∨ ((s.eng c).inByte = none ∧ (s.eng c).storeWaiting ≠ none)) :
    exec (.byteEnd c b) s = .next s ∧ exec (.lastBitArrived c b) s = .next s :=
  have hnot : s.timed = false ∨ (s.eng c).byteCanEnd = false := h.imp_right Engine.byteCanEnd_eq_false
  ⟨State.engineEvent_of_not hnot, State.engineEvent_of_not (hnot.imp_right fun he => by rw [he, Bool.false_and])⟩

theorem lastBitArrived_of_here (h : (s.eng c).inByte ≠ none) : exec (.lastBitArrived c b) s = .next s :=
  State.engineEvent_of_not (.inr (by rw [Option.isNone_eq_false_iff.mpr (Option.isSome_iff_ne_none.mpr h), Bool.and_false]))

theorem gapEnd_of_not (h : s.timed = false ∨ (s.eng c).state ≠ .gap ∨ (s.eng c).ended = true) :
    exec (.gapEnd c) s = .next s :=
  State.engineEvent_of_not (by simpa only [Bool.and_eq_false_iff, decide_eq_false_iff_not, Bool.not_eq_false'] using h)

theorem unitEndComplete_of_not (h : s.timed = false ∨ (s.eng c).state ≠ .unitEnd ∨ (s.eng c).ended = true) :
    exec (.unitEndComplete c) s = .next s :=
  State.engineEvent_of_not (by simpa only [Bool.and_eq_false_iff, decide_eq_false_iff_not, Bool.not_eq_false'] using h)

theorem lagEnd_of_not (h : s.timed = false ∨ (s.eng c).state ≠ .lag) : exec (.lagEnd c) s = .next s :=
  State.engineEvent_of_not (by simpa only [decide_eq_false_iff_not] using h)

theorem pollIntervalEnd_of_not (h : s.timed = false ∨ (s.eng c).state ≠ .pollWait) : exec (.pollIntervalEnd c) s = .next s :=
  State.engineEvent_of_not (by simpa only [decide_eq_false_iff_not] using h)

end
end Sys2Proof.Machine

namespace Sys2Proof
open Sys2Proof.Machine

/-- Settles O2: with nothing queued a step is one clock, which is read off `State.countDown`. -/
theorem emptyQueueIsOneClock : Obligations.EmptyQueueIsOneClock := by
  intro s hqueue
  have hstep : step s = .next s.tick := by rw [step, hqueue]
  refine ⟨s.tick, hstep, fun hstill => ?_, fun hlow hclock hphase => ?_, fun hlow hclock hphase => ?_⟩
  · rcases hstill with h | h | h
    · simp [State.tick, h]
    · simp [State.tick, h]
    · simp only [State.tick, h, ite_self]
  · have htick : s.tick = s.clearNext := by simp only [State.tick, hlow, hclock, hphase]; rfl
    rw [htick]; rfl
  · have htick : s.tick = s.countDown := by simp only [State.tick, hlow, hclock, hphase]; rfl
    rw [htick]
    refine ⟨?_, fun n => ?_, fun c => ?_, rfl, fun i => ?_, rfl⟩
    · simp [State.countDown, Config.clocksPerTick]
    · rw [State.timer_countDown, Timer.afterClock]
      simp only [decide_eq_true_eq]
    · rw [State.eng_countDown, Engine.afterClock_eq]
      simp only [decide_eq_false_iff_not, Nat.not_le]
    · have hpending : s.countDown.pending = s.runOuts (decide (32 ≤ s.usPhase + 1)) := by
        simp [State.countDown, hqueue, Config.clocksPerTick]
      rw [hpending, State.mem_runOuts]
      simp only [decide_eq_true_eq]

/-- Settles O4: each event command starts with the conditions under which the event occurs, each request command with the
current request's TYPE. -/
theorem eventsThatCannotOccur : Obligations.EventsThatCannotOccur := by
  refine ⟨fun s n m a b h => if_pos (by simp [h]), fun s trg busy h => if_neg ?_, fun s c b l => ⟨uartEvents_of_not,
      execSpiByteComplete_of_not, execTimerExpiry_of_ne, inputEvents_of_not, execFreshChoice_of_not, execMemoryGrant_of_not,
      selectAssertion_of_not, leadEnd_of_not, busyEvents_of_not, byteEvents_of_not, lastBitArrived_of_here, gapEnd_of_not,
      unitEndComplete_of_not, lagEnd_of_not, pollIntervalEnd_of_not⟩,
    fun s i code hcode h => ?_, fun s => execUnknownRequestType_of_known, fun s => execMemWriteDone_of_not,
    fun s => execMemReadDone_of_not⟩
  · rcases h with h | h | h <;> simp [h]
  · obtain ⟨body, hexec⟩ := exec_eq_serve hcode
    rw [hexec, State.serve_of_ne h]

/-- Settles O11. -/
theorem resetHasInvariants : Obligations.ResetHasInvariants := by
  refine ⟨Memory.wf_nil, NoticeQueue.limits_powerOn, State.claimClear_of_none rfl, rfl, fun j d hd => ?_, fun n => ?_,
    fun n => ?_, fun j => ?_, State.coherent_reset, State.passesLawful_reset, State.linkCoherent_powerOn rfl rfl⟩
  · rw [State.reset_job] at hd; cases hd
  · rw [State.reset_target]; decide
  · rw [State.reset_timer]; exact ⟨by decide, fun k hk => by cases hk⟩
  · rw [State.reset_job]; exact Runtime.lawful_free

end Sys2Proof
end

section
/-! SUPPORT. Coherence by channel (R83, R135): the jobs that run on a channel and that wait in its slot, what leaves them as they
are, and how a job enters and leaves an engine and a slot. -/
namespace Sys2Proof.Machine

/-! ### The parts that jobs play -/

/-- Job j is RUNNING on channel c. -/
def State.RunsOn (s : State) (c : Fin 4) (j : Fin 64) : Prop := s.onChannel c j = true ∧ (s.job j).rt.state = .running

/-- Job j is SUSPENDED on channel c. -/
def State.WaitsOn (s : State) (c : Fin 4) (j : Fin 64) : Prop := s.onChannel c j = true ∧ (s.job j).rt.state = .suspended

/-- The class of the job that job j is defined as. -/
def State.classOf (s : State) (j : Fin 64) : Option JobClass := (s.job j).defn.map (·.cls)

/-- Channel c is coherent. -/
structure State.ChannelCoherent (s : State) (c : Fin 4) : Prop where
  idle : (s.eng c).state = .idle ↔ (s.eng c).job = none
  runs : ∀ j, (s.eng c).job = some j ↔ s.RunsOn c j
  waits : ∀ j, (s.arb c).slot = some j ↔ s.WaitsOn c j
  normal : ∀ j, s.WaitsOn c j → s.classOf j = some .normal
  urgent : ∀ j k, s.RunsOn c j → s.WaitsOn c k → s.classOf j = some .urgent
  suspending : ∀ j, s.RunsOn c j → (s.eng c).lag = some .suspension → s.classOf j = some .normal

/-- The job is FREE exactly when it has no definition. -/
def Job.FreeCoherent (x : Job) : Prop := x.rt.state = .free ↔ x.defn = none

theorem State.onChannel_of_state {s : State} {j : Fin 64} (h : (s.job j).FreeCoherent) (hs : (s.job j).rt.state ≠ .free) :
    ∃ c, s.onChannel c j = true := by
  obtain ⟨d, hd⟩ := Option.ne_none_iff_exists'.mp (mt h.mpr hs)
  exact ⟨_, State.onChannel_iff.mpr ⟨d, hd, rfl⟩⟩

/-- Coherence, channel by channel. -/
theorem State.coherent_iff {s : State} : s.Coherent ↔ (∀ c, s.ChannelCoherent c) ∧ ∀ j, (s.job j).FreeCoherent := by
  constructor
  · intro h
    have runs (c : Fin 4) (j : Fin 64) : (s.eng c).job = some j ↔ s.RunsOn c j :=
      ⟨h.engineJob c j, fun ⟨hc, hs⟩ => h.job_of_running hc hs⟩
    have waits (c : Fin 4) (j : Fin 64) : (s.arb c).slot = some j ↔ s.WaitsOn c j := by
      refine ⟨fun hj => ⟨(h.slotJob c j hj).1, (h.slotJob c j hj).2.1⟩, fun ⟨hc, hs⟩ => ?_⟩
      obtain ⟨b, hb⟩ := h.suspended j hs
      rwa [← State.onChannel_unique (h.slotJob b j hb).1 hc]
    exact ⟨fun c => {
      idle := h.idle c
      runs := runs c
      waits := waits c
      normal := fun j hj => (h.slotJob c j ((waits c j).mpr hj)).2.2
      urgent := fun j k hj hk => h.urgent c j k ((runs c j).mpr hj) ((waits c k).mpr hk)
      suspending := fun j hj => h.suspending c j ((runs c j).mpr hj) }, h.free⟩
  · rintro ⟨h, free⟩
    exact {
      idle := fun c => (h c).idle
      engineJob := fun c j => ((h c).runs j).mp
      slotJob := fun c j hj =>
        have hw := ((h c).waits j).mp hj
        ⟨hw.1, hw.2, (h c).normal j hw⟩
      running := fun j hj => by
        obtain ⟨c, hc⟩ := State.onChannel_of_state (free j) (by simp [hj])
        exact ⟨c, ((h c).runs j).mpr ⟨hc, hj⟩⟩
      suspended := fun j hj => by
        obtain ⟨c, hc⟩ := State.onChannel_of_state (free j) (by simp [hj])
        exact ⟨c, ((h c).waits j).mpr ⟨hc, hj⟩⟩
      free := free
      urgent := fun c j k hj hk => (h c).urgent j k (((h c).runs j).mp hj) (((h c).waits k).mp hk)
      suspending := fun c j hj => (h c).suspending j (((h c).runs j).mp hj) }

theorem State.Coherent.channel {s : State} (h : s.Coherent) (c : Fin 4) : s.ChannelCoherent c := (coherent_iff.mp h).1 c

/-! ### Changes that keep the parts -/

/-- Job b plays the part of job a: whether it is FREE, RUNNING or SUSPENDED is the same, and so is its definition. -/
structure Job.Like (a b : Job) : Prop where
  defn : b.defn = a.defn
  free : b.rt.state = .free ↔ a.rt.state = .free
  running : b.rt.state = .running ↔ a.rt.state = .running
  suspended : b.rt.state = .suspended ↔ a.rt.state = .suspended

namespace Job.Like

theorem refl (a : Job) : a.Like a := ⟨rfl, .rfl, .rfl, .rfl⟩

theorem trans {a b c : Job} (h : a.Like b) (g : b.Like c) : a.Like c :=
  ⟨g.defn.trans h.defn, g.free.trans h.free, g.running.trans h.running, g.suspended.trans h.suspended⟩

theorem of_state {a : Job} {r : Runtime} (h : r.state = a.rt.state) : a.Like { a with rt := r } :=
  ⟨rfl, by rw [h], by rw [h], by rw [h]⟩

end Job.Like

/-- ARMED, READY or HALTED. -/
def JobState.Rests (x : JobState) : Prop := x ≠ .free ∧ x ≠ .running ∧ x ≠ .suspended

theorem Job.Like.of_rests {a : Job} {r : Runtime} (ha : a.rt.state.Rests) (hr : r.state.Rests) : a.Like { a with rt := r } :=
  ⟨rfl, iff_of_false hr.1 ha.1, iff_of_false hr.2.1 ha.2.1, iff_of_false hr.2.2 ha.2.2⟩

theorem Job.Like.rests {a b : Job} (h : a.Like b) (ha : a.rt.state.Rests) : b.rt.state.Rests :=
  ⟨mt h.free.mp ha.1, mt h.running.mp ha.2.1, mt h.suspended.mp ha.2.2⟩

/-- From s to t engines and slots are as they were, and every job plays its part. -/
structure Steady (s t : State) : Prop where
  engs : t.engs = s.engs
  slots : ∀ c, (t.arb c).slot = (s.arb c).slot
  jobs : ∀ j, (s.job j).Like (t.job j)

namespace Steady

variable {s t u : State} {j : Fin 64}

theorem of_parts (engs : t.engs = s.engs) (slots : ∀ c, (t.arb c).slot = (s.arb c).slot) (jobs : t.jobs = s.jobs) : Steady s t :=
  ⟨engs, slots, fun j => by rw [State.job_of_jobs jobs]; exact .refl _⟩

theorem refl (s : State) : Steady s s := of_parts rfl (fun _ => rfl) rfl

theorem trans (h : Steady s t) (g : Steady t u) : Steady s u :=
  ⟨g.engs.trans h.engs, fun c => (g.slots c).trans (h.slots c), fun j => (h.jobs j).trans (g.jobs j)⟩

theorem of_link (h : LinkSide s t) : Steady s t := of_parts h.engs (fun c => by rw [State.arb, h.arbs]; rfl) h.jobs

theorem setRt {r : Runtime} (h : (s.job j).Like { s.job j with rt := r }) : Steady s (s.setRt j r) := by
  refine ⟨rfl, fun _ => rfl, fun k => ?_⟩
  rw [State.job_setRt]
  split
  · subst k; exact h
  · exact .refl _

theorem setArb {c : Fin 4} {a : Arbiter} (h : a.slot = (s.arb c).slot) : Steady s (s.setArb c a) := by
  refine ⟨rfl, fun b => ?_, fun _ => .refl _⟩
  by_cases hb : c = b
  · subst hb; rw [State.arb_setArb_self]; exact h
  · rw [State.arb_setArb_ne _ hb]

theorem choiceDue (s : State) (c : Fin 4) : Steady s (s.choiceDue c) := setArb rfl

theorem choiceDueFor (s : State) (j : Fin 64) : Steady s (s.choiceDueFor j) := by
  unfold State.choiceDueFor
  split
  · exact choiceDue s _
  · exact refl s

theorem choiceDueAll (s : State) : Steady s s.choiceDueAll :=
  of_parts rfl (fun c => by simp [State.choiceDueAll, State.arb]) rfl

theorem hand (s : State) (n : Notice) : Steady s (s.hand n) := of_parts rfl (fun _ => rfl) rfl

/-- A trigger makes an ARMED job READY at most. -/
theorem trigger (s : State) (j : Fin 64) : Steady s (s.trigger j) := by
  unfold State.trigger
  split
  · exact refl s
  · rename_i ho
    have armed : (s.job j).rt.state = .armed := by
      revert ho; unfold triggerOutcome; cases (s.job j).rt.state <;> simp <;> split_ifs <;> simp
    exact (setRt (.of_rests (by simp [JobState.Rests, armed]) (by simp [JobState.Rests]))).trans (choiceDueFor _ j)
  · exact setRt (.of_state rfl)
  · refine trans ?_ (hand _ _)
    exact setRt (.of_state rfl)

theorem fire (s : State) (l : Option (Fin 64)) : Steady s (s.fire l) := by
  cases l with
  | none => exact refl s
  | some j => exact trigger s j

end Steady

/-- The parts played on channel c in t are those in s. -/
structure SameParts (c : Fin 4) (s t : State) : Prop where
  slot : (t.arb c).slot = (s.arb c).slot
  runs : ∀ j, t.RunsOn c j ↔ s.RunsOn c j
  waits : ∀ j, t.WaitsOn c j ↔ s.WaitsOn c j
  classOf : ∀ j, s.RunsOn c j ∨ s.WaitsOn c j → t.classOf j = s.classOf j

namespace SameParts

variable {s t : State} {c : Fin 4} {j : Fin 64}

/-- Of the engine coherence reads the state, the job and the reason of LAG. -/
theorem channel (h : SameParts c s t) (hs : s.ChannelCoherent c) (state : (t.eng c).state = (s.eng c).state)
    (job : (t.eng c).job = (s.eng c).job) (lag : (t.eng c).lag = (s.eng c).lag) : t.ChannelCoherent c where
  idle := by rw [state, job]; exact hs.idle
  runs k := by rw [job, h.runs]; exact hs.runs k
  waits k := by rw [h.slot, h.waits]; exact hs.waits k
  normal k hk := by
    have hw := (h.waits k).mp hk
    rw [h.classOf k (.inr hw)]; exact hs.normal k hw
  urgent i k hi hk := by
    have hr := (h.runs i).mp hi
    rw [h.classOf i (.inl hr)]; exact hs.urgent i k hr ((h.waits k).mp hk)
  suspending k hk hl := by
    have hr := (h.runs k).mp hk
    rw [lag] at hl
    rw [h.classOf k (.inl hr)]; exact hs.suspending k hr hl

theorem channel_of_eng (h : SameParts c s t) (hs : s.ChannelCoherent c) (eng : t.eng c = s.eng c) : t.ChannelCoherent c :=
  h.channel hs (by rw [eng]) (by rw [eng]) (by rw [eng])

end SameParts

variable {s t : State} {b c : Fin 4} {j k : Fin 64}

theorem State.onChannel_congr (h : (t.job k).defn = (s.job k).defn) : t.onChannel c k = s.onChannel c k := by
  unfold State.onChannel; rw [h]

theorem Job.Like.runsOn (h : (s.job k).Like (t.job k)) : t.RunsOn c k ↔ s.RunsOn c k := by
  unfold State.RunsOn; rw [State.onChannel_congr h.defn, h.running]

theorem Job.Like.waitsOn (h : (s.job k).Like (t.job k)) : t.WaitsOn c k ↔ s.WaitsOn c k := by
  unfold State.WaitsOn; rw [State.onChannel_congr h.defn, h.suspended]

/-- Parts are the same where each job is alike or elsewhere. -/
theorem SameParts.of_jobs (slot : (t.arb b).slot = (s.arb b).slot)
    (jobs : ∀ k, (s.job k).Like (t.job k) ∨ (s.onChannel b k = false ∧ t.onChannel b k = false)) : SameParts b s t := by
  refine ⟨slot, fun k => ?_, fun k => ?_, fun k hk => ?_⟩ <;> rcases jobs k with like | ⟨hs, ht⟩
  · exact like.runsOn
  · simp [State.RunsOn, hs, ht]
  · exact like.waitsOn
  · simp [State.WaitsOn, hs, ht]
  · unfold State.classOf; rw [like.defn]
  · simp [State.RunsOn, State.WaitsOn, hs] at hk

theorem State.Coherent.steady (hs : s.Coherent) (h : Steady s t) : t.Coherent := by
  obtain ⟨channels, free⟩ := State.coherent_iff.mp hs
  refine State.coherent_iff.mpr ⟨fun c => ?_, fun j => ?_⟩
  · exact (SameParts.of_jobs (h.slots c) fun k => .inl (h.jobs k)).channel_of_eng (channels c) (by rw [State.eng, h.engs]; rfl)
  · unfold Job.FreeCoherent
    rw [(h.jobs j).free, (h.jobs j).defn]
    exact free j

/-- Job j of channel c changes its part, and the channel's engine and slot with it; the rest is as it was. -/
structure PartChange (c : Fin 4) (j : Fin 64) (s t : State) : Prop where
  engs : ∀ b, b ≠ c → t.eng b = s.eng b
  slots : ∀ b, b ≠ c → (t.arb b).slot = (s.arb b).slot
  others : ∀ k, k ≠ j → (s.job k).Like (t.job k)
  defn : (t.job j).defn = (s.job j).defn
  live : (t.job j).rt.state ≠ .free

/-- The other channels do not see it. -/
theorem PartChange.coherent (h : PartChange c j s t) (hj : s.onChannel c j = true) (hs : s.Coherent)
    (here : t.ChannelCoherent c) : t.Coherent := by
  obtain ⟨channels, free⟩ := State.coherent_iff.mp hs
  refine State.coherent_iff.mpr ⟨fun b => ?_, fun k => ?_⟩
  · by_cases hb : b = c
    · subst hb; exact here
    · refine (SameParts.of_jobs (h.slots b hb) fun k => ?_).channel_of_eng (channels b) (h.engs b hb)
      by_cases hk : k = j
      · subst hk
        have away : s.onChannel b k = false := Bool.eq_false_iff.mpr fun hbk => hb (State.onChannel_unique hbk hj)
        exact .inr ⟨away, by rw [State.onChannel_congr h.defn]; exact away⟩
      · exact .inl (h.others k hk)
  · by_cases hk : k = j
    · subst hk
      obtain ⟨d, hd, -⟩ := State.onChannel_iff.mp hj
      exact iff_of_false h.live (by rw [h.defn, hd]; simp)
    · unfold Job.FreeCoherent
      rw [(h.others k hk).free, (h.others k hk).defn]
      exact free k

theorem PartChange.classOf (h : PartChange c j s t) (k : Fin 64) : t.classOf k = s.classOf k := by
  unfold State.classOf
  by_cases hk : k = j
  · subst hk; rw [h.defn]
  · rw [(h.others k hk).defn]

/-! ### A job enters an engine, and leaves a slot -/

/-- A job at rest on channel c enters its idle engine (R126); while the slot is full it is URGENT (R135). -/
theorem State.Coherent.enter {e : Engine} {r : Runtime} (hs : s.Coherent) (hj : s.onChannel c j = true)
    (hrests : (s.job j).rt.state.Rests) (hidle : (s.eng c).state = .idle)
    (hslot : (s.arb c).slot ≠ none → s.classOf j = some .urgent) (hr : r.state = .running) (hbusy : e.state ≠ .idle)
    (hjob : e.job = some j) (hlag : e.lag = none) : ((s.setRt j r).setEng c e).Coherent := by
  have h := hs.channel c
  have none_runs (k : Fin 64) : ¬ s.RunsOn c k := fun hk => by
    have := (h.runs k).mpr hk
    rw [h.idle.mp hidle] at this; cases this
  have change : PartChange c j s ((s.setRt j r).setEng c e) := by
    refine ⟨fun b hb => State.eng_setEng_ne _ (Ne.symm hb) _, fun _ _ => rfl, fun k hk => ?_, by simp, by simp [hr]⟩
    rw [State.job_setEng, State.job_setRt_ne _ (Ne.symm hk)]; exact .refl _
  have runs (k : Fin 64) : ((s.setRt j r).setEng c e).RunsOn c k ↔ k = j := by
    by_cases hk : k = j
    · subst hk
      refine iff_of_true ⟨by rw [State.onChannel_congr change.defn]; exact hj, by simp [hr]⟩ rfl
    · exact iff_of_false (mt (change.others k hk).runsOn.mp (none_runs k)) hk
  have waits (k : Fin 64) : ((s.setRt j r).setEng c e).WaitsOn c k ↔ s.WaitsOn c k := by
    by_cases hk : k = j
    · subst hk
      exact iff_of_false (fun hw => by simp [State.WaitsOn, hr] at hw) fun hw => hrests.2.2 hw.2
    · exact (change.others k hk).waitsOn
  refine change.coherent hj hs {
    idle := by rw [State.eng_setEng_self]; exact iff_of_false hbusy (by simp [hjob])
    runs := fun k => by rw [State.eng_setEng_self, runs, hjob, Option.some.injEq, eq_comm]
    waits := fun k => by rw [waits]; exact h.waits k
    normal := fun k hk => by rw [change.classOf]; exact h.normal k ((waits k).mp hk)
    urgent := fun i k hi hk => by
      rw [change.classOf, (runs i).mp hi]
      exact hslot (by rw [(h.waits k).mpr ((waits k).mp hk)]; simp)
    suspending := fun k _ hl => by rw [State.eng_setEng_self, hlag] at hl; cases hl }

/-- The SUSPENDED job leaves the slot (R126, R136). -/
theorem State.Coherent.leaveSlot {a : Arbiter} {r : Runtime} (hs : s.Coherent) (hj : s.WaitsOn c j) (hr : r.state.Rests)
    (ha : a.slot = none) : ((s.setArb c a).setRt j r).Coherent := by
  have h := hs.channel c
  have change : PartChange c j s ((s.setArb c a).setRt j r) := by
    refine ⟨fun _ _ => rfl, fun b hb => by rw [State.arb_setRt, State.arb_setArb_ne _ (Ne.symm hb)], fun k hk => ?_, by simp,
      by simpa using hr.1⟩
    rw [State.job_setRt_ne _ (Ne.symm hk), State.job_setArb]; exact .refl _
  have runs (k : Fin 64) : ((s.setArb c a).setRt j r).RunsOn c k ↔ s.RunsOn c k := by
    by_cases hk : k = j
    · subst hk
      exact iff_of_false (fun hw => hr.2.1 (by simpa using hw.2)) fun hw => by cases hw.2.symm.trans hj.2
    · exact (change.others k hk).runsOn
  have none_waits (k : Fin 64) : ¬ ((s.setArb c a).setRt j r).WaitsOn c k := fun hw => by
    by_cases hk : k = j
    · subst hk; exact hr.2.2 (by simpa using hw.2)
    · have := ((h.waits j).mpr hj).symm.trans ((h.waits k).mpr ((change.others k hk).waitsOn.mp hw))
      exact hk (Option.some.inj this).symm
  exact change.coherent hj.1 hs {
    idle := h.idle
    runs := fun k => by rw [runs]; exact h.runs k
    waits := fun k => by
      rw [State.arb_setRt, State.arb_setArb_self, ha]
      exact iff_of_false nofun (none_waits k)
    normal := fun k hk => absurd hk (none_waits k)
    urgent := fun i k _ hk => absurd hk (none_waits k)
    suspending := fun k hk => by rw [change.classOf]; exact h.suspending k ((runs k).mp hk) }

/-! ### A job leaves its engine -/

/-- From s to t job j is laid to rest: engines and slots are as they were, and the other jobs play their parts. -/
structure LaidDown (j : Fin 64) (s t : State) : Prop where
  engs : t.engs = s.engs
  slots : ∀ c, (t.arb c).slot = (s.arb c).slot
  others : ∀ k, k ≠ j → (s.job k).Like (t.job k)
  defn : (t.job j).defn = (s.job j).defn
  rests : (t.job j).rt.state.Rests

namespace LaidDown

variable {u : State}

theorem setRt {r : Runtime} (h : r.state.Rests) : LaidDown j s (s.setRt j r) := by
  refine ⟨rfl, fun _ => rfl, fun k hk => ?_, by simp, by simpa using h⟩
  rw [State.job_setRt_ne _ (Ne.symm hk)]; exact .refl _

theorem after (h : Steady s t) (g : LaidDown j t u) : LaidDown j s u :=
  ⟨g.engs.trans h.engs, fun c => (g.slots c).trans (h.slots c), fun k hk => (h.jobs k).trans (g.others k hk),
    g.defn.trans (h.jobs j).defn, g.rests⟩

theorem steady (h : LaidDown j s t) (g : Steady t u) : LaidDown j s u :=
  ⟨g.engs.trans h.engs, fun c => (g.slots c).trans (h.slots c), fun k hk => (h.others k hk).trans (g.jobs k),
    (g.jobs j).defn.trans h.defn, (g.jobs j).rests h.rests⟩

theorem cancelledEnding (s : State) (j : Fin 64) : LaidDown j s (s.cancelledEnding j) :=
  after (.hand s _) (setRt (by simp [JobState.Rests, Runtime.cancelled]))

theorem haltJob (s : State) (c : Fin 4) (j : Fin 64) (f : JobFault) : LaidDown j s (s.haltJob c j f) :=
  (setRt (by simp [JobState.Rests, Runtime.halt])).steady (.hand _ _)

theorem passEndState (s : State) (j : Fin 64) : LaidDown j s (s.passEndState j) := by
  unfold State.passEndState
  split
  · exact (setRt (by simp [JobState.Rests])).steady (.choiceDueFor _ _)
  · exact setRt (by simp [JobState.Rests])

theorem passEnd (s : State) (j : Fin 64) (d : JobDef) (o : PassOutcome) : LaidDown j s (s.passEnd j d o) := by
  have counted : Steady s (s.setRt j ((s.job j).rt.countPass o.ending)) := .setRt (.of_state (by simp [Runtime.countPass]))
  have fired := counted.trans (.fire _ (o.link d))
  unfold State.passEnd
  dsimp only
  split
  · exact after (fired.trans (.hand _ _)) (passEndState _ j)
  · exact after fired (passEndState _ j)

end LaidDown

/-- An ending lays the job to rest or suspends it (R104, R107, R132). -/
theorem State.applyEnding_cases (s : State) (c : Fin 4) (j : Fin 64) (d : JobDef) (l : LagReason) :
    LaidDown j s (s.applyEnding c j d l) ∨ (l = .suspension ∧ s.applyEnding c j d l = s.suspend c j) := by
  unfold State.applyEnding
  split
  · exact .inl ((LaidDown.haltJob s _ j _).steady (.fire _ _))
  · exact .inl (.cancelledEnding s j)
  · exact .inl (.cancelledEnding s j)
  · split
    · exact .inl (.cancelledEnding s j)
    · exact .inl (.passEnd s j d _)
  · split
    · exact .inl (.cancelledEnding s j)
    · exact .inr ⟨rfl, rfl⟩

/-- The engine released, its job at rest (R104). -/
theorem State.Coherent.leaveEngine {e : Engine} (hs : s.Coherent) (hjob : (s.eng c).job = some j) (hidle : e.state = .idle)
    (he : e.job = none) (down : LaidDown j (s.setEng c e) t) : t.Coherent := by
  have h := hs.channel c
  have hj := (h.runs j).mp hjob
  have eng (b : Fin 4) : t.eng b = (s.setEng c e).eng b := by rw [State.eng, down.engs]; rfl
  have change : PartChange c j s t :=
    ⟨fun b hb => (eng b).trans (State.eng_setEng_ne _ (Ne.symm hb) _), fun b _ => down.slots b, down.others, down.defn,
      down.rests.1⟩
  have none_runs (k : Fin 64) : ¬ t.RunsOn c k := fun hr => by
    by_cases hk : k = j
    · subst hk; exact down.rests.2.1 hr.2
    · have := hjob.symm.trans ((h.runs k).mpr ((change.others k hk).runsOn.mp hr))
      exact hk (Option.some.inj this).symm
  have waits (k : Fin 64) : t.WaitsOn c k ↔ s.WaitsOn c k := by
    by_cases hk : k = j
    · subst hk
      exact iff_of_false (fun hw => down.rests.2.2 hw.2) fun hw => by cases hw.2.symm.trans hj.2
    · exact (change.others k hk).waitsOn
  have engc : t.eng c = e := (eng c).trans (State.eng_setEng_self _ _ _)
  exact change.coherent hj.1 hs {
    idle := by rw [engc]; exact iff_of_true hidle he
    runs := fun k => by rw [engc, he]; exact iff_of_false nofun (none_runs k)
    waits := fun k => by rw [waits, show (t.arb c).slot = (s.arb c).slot from down.slots c]; exact h.waits k
    normal := fun k hk => by rw [change.classOf]; exact h.normal k ((waits k).mp hk)
    urgent := fun i k hi _ => absurd hi (none_runs i)
    suspending := fun k hk => absurd hk (none_runs k) }

/-- The engine released, its job into the slot, which a NORMAL job in a pass shows to be empty (R132, R135). -/
theorem State.Coherent.moveToSlot {e : Engine} (hs : s.Coherent) (hjob : (s.eng c).job = some j) (hidle : e.state = .idle)
    (he : e.job = none) (hnormal : s.classOf j = some .normal) : ((s.setEng c e).suspend c j).Coherent := by
  have h := hs.channel c
  have hj := (h.runs j).mp hjob
  have empty (k : Fin 64) : ¬ s.WaitsOn c k := fun hk => by
    have := h.urgent j k hj hk
    rw [hnormal] at this; cases this
  have hrun : ((s.setEng c e).job j).rt.state = .running := hj.2
  unfold State.suspend
  rw [if_pos hrun]
  dsimp only
  have change : PartChange c j s (((s.setEng c e).setRt j { ((s.setEng c e).job j).rt with state := .suspended }).setArb c
      { ((s.setEng c e).setRt j { ((s.setEng c e).job j).rt with state := .suspended }).arb c with slot := some j }) := by
    refine ⟨fun b hb => ?_, fun b hb => ?_, fun k hk => ?_, by simp, by simp⟩
    · rw [State.eng_setArb, State.eng_setRt, State.eng_setEng_ne _ (Ne.symm hb)]
    · rw [State.arb_setArb_ne _ (Ne.symm hb)]; rfl
    · rw [State.job_setArb, State.job_setRt_ne _ (Ne.symm hk), State.job_setEng]; exact .refl _
  generalize ht : ((s.setEng c e).setRt j { ((s.setEng c e).job j).rt with state := .suspended }).setArb c
      { ((s.setEng c e).setRt j { ((s.setEng c e).job j).rt with state := .suspended }).arb c with slot := some j } = t
    at change ⊢
  have engc : t.eng c = e := by rw [← ht]; simp
  have slot : (t.arb c).slot = some j := by rw [← ht]; simp
  have state : (t.job j).rt.state = .suspended := by rw [← ht]; simp
  have none_runs (k : Fin 64) : ¬ t.RunsOn c k := fun hr => by
    by_cases hk : k = j
    · subst hk; cases state.symm.trans hr.2
    · have := hjob.symm.trans ((h.runs k).mpr ((change.others k hk).runsOn.mp hr))
      exact hk (Option.some.inj this).symm
  have waits (k : Fin 64) : t.WaitsOn c k ↔ j = k := by
    by_cases hk : k = j
    · subst hk; exact iff_of_true ⟨by rw [State.onChannel_congr change.defn]; exact hj.1, state⟩ rfl
    · exact iff_of_false (mt (change.others k hk).waitsOn.mp (empty k)) (Ne.symm hk)
  exact change.coherent hj.1 hs {
    idle := by rw [engc]; exact iff_of_true hidle he
    runs := fun k => by rw [engc, he]; exact iff_of_false nofun (none_runs k)
    waits := fun k => by rw [waits, slot, Option.some.injEq]
    normal := fun k hk => by rw [change.classOf, ← (waits k).mp hk]; exact hnormal
    urgent := fun i k hi _ => absurd hi (none_runs i)
    suspending := fun k hk => absurd hk (none_runs k) }

end Sys2Proof.Machine
end

section
/-! SUPPORT. Every move keeps the channels coherent. -/
namespace Sys2Proof.Machine

variable {s t : State} {c : Fin 4} {j k : Fin 64} {x : Pass}

/-! ### Passes -/

/-- The engine goes on in its pass. -/
theorem State.Coherent.setEng {e : Engine} (hs : s.Coherent) (hjob : (s.eng c).job = some j) (job : e.job = some j)
    (busy : e.state ≠ .idle) (suspending : e.lag = some .suspension → s.classOf j = some .normal) : (s.setEng c e).Coherent := by
  obtain ⟨channels, free⟩ := State.coherent_iff.mp hs
  refine State.coherent_iff.mpr ⟨fun b => ?_, free⟩
  by_cases hb : b = c
  · subst hb
    have h := channels b
    exact {
      idle := by rw [State.eng_setEng_self]; exact iff_of_false busy (by simp [job])
      runs := fun k => by rw [State.eng_setEng_self, job, ← hjob]; exact h.runs k
      waits := h.waits
      normal := h.normal
      urgent := h.urgent
      suspending := fun k hk hl => by
        rw [State.eng_setEng_self] at hl
        have hkj : j = k := Option.some.inj (hjob.symm.trans ((h.runs k).mpr hk))
        subst hkj
        exact suspending hl }
  · exact SameParts.channel_of_eng (s := s) (.of_jobs rfl fun _ => .inl (.refl _)) (channels b)
      (State.eng_setEng_ne _ (Ne.symm hb) _)

/-- An event leaves the channels coherent, where it leads the pass (08). -/
theorem State.Coherent.passOut {L : Prop} (hs : s.Coherent) (hjob : (s.eng x.chan).job = some x.job)
    (hdefn : (s.job x.job).defn = some x.defn) (out : PassOut True L s x t) : t.Coherent := by
  have class_eq : s.classOf x.job = some x.defn.cls := by rw [State.classOf, hdefn]; rfl
  cases out with
  | stays e r counted h =>
    have inPass : (s.setEng x.chan e).Coherent := hs.setEng hjob h.job (h.busy trivial) fun hl => by
      rw [class_eq, h.suspending trivial hl]
    exact inPass.steady (.setRt (.of_state counted.state))
  | ends e r l counted normal =>
    have hr : (s.setRt x.job r).Coherent := hs.steady (.setRt (.of_state counted.state))
    have release (e' : Engine) : ((s.setEng x.chan e).setRt x.job r).setEng x.chan e' = (s.setRt x.job r).setEng x.chan e' :=
      State.setEng_setEng (s.setRt x.job r) x.chan e e'
    unfold State.finishPass
    rw [release]
    refine State.Coherent.steady ?_ (.choiceDue _ _)
    rcases State.applyEnding_cases _ x.chan x.job x.defn l with down | ⟨hl, he⟩
    · exact hr.leaveEngine hjob rfl rfl down
    · rw [he]
      refine hr.moveToSlot hjob rfl rfl ?_
      rw [State.classOf, State.defn_setRt]
      exact class_eq.trans (congrArg some (normal trivial hl))

/-- What an event does does not depend on the engine it sets. -/
theorem PassOut.setEng {K L : Prop} (e : Engine) (out : PassOut K L s x t) : PassOut K L (s.setEng x.chan e) x t := by
  cases out with
  | stays e' r counted h =>
    rw [← State.setEng_setEng s x.chan e e']
    exact stays e' r counted h
  | ends e' r l counted normal progress left =>
    rw [← State.setEng_setEng s x.chan e e']
    exact ends e' r l counted normal progress left

/-- An engine that has just taken job j. -/
def Engine.entered (j : Fin 64) : Engine := { Engine.powerOn with state := .lead, job := some j }

/-- The job of an engine is in a pass on the engine's channel. -/
theorem State.Coherent.pass (hs : s.Coherent) (hjob : (s.eng c).job = some j) : ∃ x, s.pass? c = some x ∧ x.chan = c ∧
    x.job = j ∧ (s.job j).defn = some x.defn ∧ channelOf x.defn.target = c := by
  obtain ⟨hc, -⟩ := hs.engineJob c j hjob
  obtain ⟨d, hd, hchan⟩ := State.onChannel_iff.mp hc
  exact ⟨{ chan := c, job := j, defn := d, prof := s.target d.target }, State.pass?_iff.mpr ⟨hjob, rfl, hd, rfl⟩, rfl, rfl, hd,
    hchan⟩

theorem State.Coherent.inPass (hs : s.Coherent) (hx : s.pass? x.chan = some x) :
    (s.eng x.chan).InPass True s.PassesLawful x (s.job x.job).rt := by
  obtain ⟨hjob, -, hdefn, -⟩ := State.pass?_iff.mp hx
  have busy : (s.eng x.chan).state ≠ .idle := fun hidle => by
    rw [(hs.idle x.chan).mp hidle] at hjob; cases hjob
  refine ⟨hjob, fun _ => busy, fun _ hl => ?_, fun hp => hp.engine _ _ _ hjob hdefn⟩
  have := hs.suspending _ _ hjob hl
  rw [hdefn] at this
  exact Option.some.inj this

/-! ### A dispatch, a resumption and a cancel -/

/-- The pass of job j on channel c. -/
def State.passOf (s : State) (c : Fin 4) (j : Fin 64) (d : JobDef) : Pass :=
  { chan := c, job := j, defn := d, prof := s.target d.target }

/-- A READY job, RUNNING and with its engine, before its pass starts. -/
theorem State.Coherent.dispatched (hs : s.Coherent) {d : JobDef} (hd : (s.job j).defn = some d) (hc : channelOf d.target = c)
    (hready : (s.job j).rt.state = .ready) (hidle : (s.eng c).state = .idle) (hslot : d.cls = .normal → (s.arb c).slot = none) :
    ((s.setRt j { (s.job j).rt with state := .running, progress := 0 }).setEng c (.entered j)).Coherent := by
  refine hs.enter (State.onChannel_iff.mpr ⟨d, hd, hc⟩) (by simp [JobState.Rests, hready]) hidle (fun hfull => ?_) rfl (by
    simp [Engine.entered]) rfl rfl
  rw [State.classOf, hd]
  cases hcls : d.cls with
  | normal => exact absurd (hslot hcls) hfull
  | urgent => simp [hcls]

/-- A SUSPENDED job, RUNNING again and with its engine, before its pass starts. -/
theorem State.Coherent.resumed (hs : s.Coherent) (hslot : (s.arb c).slot = some j) (hidle : (s.eng c).state = .idle) :
    (((s.setArb c { s.arb c with slot := none }).setRt j { (s.job j).rt with state := .running }).setEng c
      (.entered j)).Coherent := by
  have hwaits := ((hs.channel c).waits j).mp hslot
  have left : ((s.setArb c { s.arb c with slot := none }).setRt j { (s.job j).rt with state := .armed }).Coherent :=
    hs.leaveSlot hwaits (by simp [JobState.Rests]) rfl
  have entered := left.enter (c := c) (j := j) (r := { (s.job j).rt with state := .running }) (e := .entered j)
    (by rw [State.onChannel_congr (State.defn_setRt ..)]; exact hwaits.1) (by simp [JobState.Rests]) hidle
    (fun hfull => absurd (by rw [State.arb_setRt, State.arb_setArb_self]) hfull) rfl (by simp [Engine.entered]) rfl rfl
  rwa [State.setRt_setRt] at entered

/-- A pass starts, its job RUNNING and with the engine. -/
theorem State.Coherent.startPass (hs : (s.setEng x.chan (.entered x.job)).Coherent) (hdefn : (s.job x.job).defn = some x.defn) :
    (s.startPass x).Coherent :=
  hs.passOut (L := False) (by rw [State.eng_setEng_self]; rfl) hdefn (.setEng _ (.startPass nofun))

theorem State.Coherent.cancelSuspended (hs : s.Coherent) (hstate : (s.job j).rt.state = .suspended) :
    (s.cancelSuspended j).Coherent := by
  obtain ⟨c, hslot⟩ := hs.suspended j hstate
  have hwaits := ((hs.channel c).waits j).mp hslot
  obtain ⟨d, hd, rfl⟩ := State.onChannel_iff.mp hwaits.1
  have told : (s.hand (s.jobDone j .cancelled)).Coherent := hs.steady (.hand s _)
  rw [State.cancelSuspended_of_defn hd]
  exact told.leaveSlot (c := channelOf d.target) hwaits (r := (s.job j).rt.cancelled)
    (a := { s.arb (channelOf d.target) with slot := none, choiceDue := true }) (by simp [JobState.Rests, Runtime.cancelled]) rfl

/-- The cancel of a RUNNING job is requested (R105), or the engine of its channel carries it out. -/
theorem State.Coherent.cancelRunning_cases (hs : s.Coherent) (hstate : (s.job j).rt.state = .running) :
    s.cancelRunning j = s ∨ ∃ x, s.pass? x.chan = some x ∧ x.job = j ∧
      s.cancelRunning j = (s.setRt j { (s.job j).rt with cancel := true }).carryCancel x := by
  cases hcancel : (s.job j).rt.cancel with
  | true => exact .inl (State.cancelRunning_of_cancel hcancel)
  | false =>
    obtain ⟨c, hjob⟩ := hs.running j hstate
    obtain ⟨x, hx, rfl, rfl, -, hc⟩ := hs.pass hjob
    exact .inr ⟨x, hx, rfl, State.cancelRunning_of_pass hcancel hx hc⟩

/-- Carrying out the cancel just requested, from the state with the flag set. -/
theorem State.Coherent.carryCancel_out (hs : s.Coherent) (hx : s.pass? x.chan = some x) {u : State}
    (hu : u = s.setRt x.job { (s.job x.job).rt with cancel := true }) : PassOut True u.PassesLawful u x (u.carryCancel x) := by
  have hu' : u.Coherent := by rw [hu]; exact hs.steady (.setRt (.of_state rfl))
  obtain ⟨hjob, -, hdefn, hprof⟩ := State.pass?_iff.mp hx
  have hxu : u.pass? x.chan = some x := by
    rw [hu]; exact State.pass?_congr hx rfl (State.defn_setRt ..) rfl
  obtain ⟨job, busy, suspending, lawful⟩ := hu'.inPass hxu
  exact .carryCancel ⟨job, suspending⟩ busy lawful (by rw [hu]; simp)

theorem EngineMove.coherent {choice : Bool} (h : EngineMove choice s t) (hs : s.Coherent) : t.Coherent := by
  cases h with
  | trigger j => exact hs.steady (.trigger s j)
  | flags => exact hs.steady (.setArb rfl)
  | dueAll => exact hs.steady (.choiceDueAll s)
  | disarm j ready =>
    exact hs.steady (.setRt (.of_rests (by simp [JobState.Rests, ready]) (by simp [JobState.Rests])))
  | clear j halted =>
    exact hs.steady (.setRt (.of_rests (by simp [JobState.Rests, halted]) (by simp [JobState.Rests])))
  | swap j d live => exact hs.steady (.setRt (.of_state (by unfold Runtime.askSwap; split_ifs <;> rfl)))
  | cancelRunning j running =>
    rcases hs.cancelRunning_cases running with e | ⟨x, hx, rfl, e⟩ <;> rw [e]
    · exact hs
    · obtain ⟨hjob, -, hdefn, -⟩ := State.pass?_iff.mp hx
      have asked : (s.setRt x.job { (s.job x.job).rt with cancel := true }).Coherent := hs.steady (.setRt (.of_state rfl))
      exact asked.passOut hjob ((State.defn_setRt ..).trans hdefn) (hs.carryCancel_out hx rfl)
  | cancelSuspended j suspended => exact hs.cancelSuspended suspended
  | dispatch c k j idle ready _ slot =>
    obtain ⟨d, hd, hready, hc, rfl⟩ := State.isReady_iff.mp ready
    rw [State.dispatch_of_defn hd]
    exact State.Coherent.startPass (x := s.passOf c j d) (hs.dispatched hd hc hready idle slot) ((State.defn_setRt ..).trans hd)
  | resume c j idle slot =>
    obtain ⟨hc, hstate⟩ := ((hs.channel c).waits j).mp slot
    obtain ⟨d, hd, -⟩ := State.onChannel_iff.mp hc
    rw [State.resume_of_defn hd hstate]
    exact State.Coherent.startPass (x := s.passOf c j d) (hs.resumed slot idle) ((State.defn_setRt ..).trans hd)
  | pass x t hx h =>
    obtain ⟨hjob, -, hdefn, -⟩ := State.pass?_iff.mp hx
    exact hs.passOut hjob hdefn (h.out (hs.inPass hx))

/-! ### The other moves -/

/-- A job that is neither RUNNING nor SUSPENDED replaced by another such one. -/
theorem State.Coherent.setJob {y : Job} (hs : s.Coherent) (hold : (s.job j).rt.state.inUse = false)
    (hnew : y.rt.state.inUse = false) (hfree : y.FreeCoherent) : (s.setJob j y).Coherent := by
  obtain ⟨channels, free⟩ := State.coherent_iff.mp hs
  have unused {u : State} (hu : (u.job j).rt.state.inUse = false) (b : Fin 4) : ¬ u.RunsOn b j ∧ ¬ u.WaitsOn b j :=
    ⟨fun h => (by rw [h.2] at hu; cases hu), fun h => by rw [h.2] at hu; cases hu⟩
  have new : ((s.setJob j y).job j).rt.state.inUse = false := by rw [State.job_setJob_self]; exact hnew
  have other {k : Fin 64} (hk : k ≠ j) : (s.setJob j y).job k = s.job k := State.job_setJob_ne _ (Ne.symm hk) _
  refine State.coherent_iff.mpr ⟨fun b => SameParts.channel_of_eng (s := s)
    ⟨rfl, fun k => ?_, fun k => ?_, fun k hk => ?_⟩ (channels b) rfl, fun k => ?_⟩
  · by_cases hk : k = j
    · subst hk; exact iff_of_false (unused new b).1 (unused hold b).1
    · exact Job.Like.runsOn (by rw [other hk]; exact .refl _)
  · by_cases hk : k = j
    · subst hk; exact iff_of_false (unused new b).2 (unused hold b).2
    · exact Job.Like.waitsOn (by rw [other hk]; exact .refl _)
  · have hne : k ≠ j := by
      rintro rfl
      exact hk.elim (unused hold b).1 (unused hold b).2
    unfold State.classOf; rw [other hne]
  · by_cases hk : k = j
    · subst hk; rw [State.job_setJob_self]; exact hfree
    · rw [other hk]; exact free k

/-- An engine that stops is released; the others are as they were. -/
theorem State.stopEngine_eng (s : State) (c b : Fin 4) :
    (s.stopEngine c).eng b = if b = c then (s.eng c).release else s.eng b := by
  have hstore : ∀ x, s.pass? c = some x → ∀ a, a ≠ c → (s.storeAtStop x).eng a = s.eng a := by
    intro x hx a ha
    obtain ⟨rfl, -⟩ := State.pass?_eq hx
    unfold State.storeAtStop
    split
    · rfl
    · rw [State.countByte_eq, State.eng_setRt, State.eng_setEng_ne _ (Ne.symm ha)]; rfl
  have hserved : ∀ x, s.pass? c = some x → ((s.storeAtStop x).eng c).release = (s.eng c).release := by
    intro x hx
    obtain ⟨rfl, -⟩ := State.pass?_eq hx
    unfold State.storeAtStop
    split
    · rfl
    · rw [State.countByte_eng]; rfl
  unfold State.stopEngine
  by_cases hb : b = c
  · subst hb
    rw [if_pos rfl, State.eng_setEng_self]
    split
    · rfl
    · exact hserved _ ‹_›
  · rw [if_neg hb, State.eng_setEng_ne _ (Ne.symm hb)]
    split
    · rfl
    · exact hstore _ ‹_› b hb

theorem State.stopEngine_defn (s : State) (c : Fin 4) (j : Fin 64) : ((s.stopEngine c).job j).defn = (s.job j).defn :=
  (s.stopEngine_side c).defn j

/-- R177: the states of the jobs after an abort. -/
theorem State.Coherent.abortChannel_state (hs : s.Coherent) (c : Fin 4) (j : Fin 64) : ((s.abortChannel c).job j).rt.state =
    if s.onChannel c j = true ∧ ((s.job j).rt.state = .running ∨ (s.job j).rt.state = .suspended) then .halted
    else if s.onChannel c j = true ∧ (s.job j).rt.state = .ready then .armed else (s.job j).rt.state := by
  rw [hs.abortChannel_job c j rfl, State.stopEngine_state]
  split_ifs
  · rfl
  · rfl
  · exact State.stopEngine_state s c j

theorem State.abortChannel_defn (s : State) (c : Fin 4) (j : Fin 64) : ((s.abortChannel c).job j).defn = (s.job j).defn :=
  (s.abortChannel_side c).defn j

theorem State.Coherent.abortChannel_eng (hs : s.Coherent) (c b : Fin 4) :
    (s.abortChannel c).eng b = if b = c then (s.eng c).release else s.eng b := by
  rw [← s.stopEngine_eng c b, hs.abortChannel_frame c]; rfl

theorem State.Coherent.abortChannel_slot (hs : s.Coherent) (c b : Fin 4) :
    ((s.abortChannel c).arb b).slot = if b = c then none else (s.arb b).slot := by
  rw [hs.abortChannel_eq c]
  split_ifs with hb
  · subst hb; rw [State.arb_setArb_self]
  · rw [State.arb_setArb_ne _ (Ne.symm hb), State.disarms_frame, State.haltAll_frame, State.stopEngine_frame]; rfl

theorem State.Coherent.abortChannel (hs : s.Coherent) (c : Fin 4) : (s.abortChannel c).Coherent := by
  obtain ⟨channels, free⟩ := State.coherent_iff.mp hs
  have hon (b : Fin 4) (k : Fin 64) : (s.abortChannel c).onChannel b k = s.onChannel b k :=
    State.onChannel_congr (s.abortChannel_defn c k)
  have away {k : Fin 64} (hk : s.onChannel c k = false) : (s.job k).Like ((s.abortChannel c).job k) := by
    have state : ((s.abortChannel c).job k).rt.state = (s.job k).rt.state := by
      rw [hs.abortChannel_state]; simp [hk]
    exact ⟨s.abortChannel_defn c k, by rw [state], by rw [state], by rw [state]⟩
  have stopped (k : Fin 64) : ¬ (s.abortChannel c).RunsOn c k ∧ ¬ (s.abortChannel c).WaitsOn c k := by
    unfold State.RunsOn State.WaitsOn
    rw [hon, hs.abortChannel_state]
    split_ifs <;> simp_all
  refine State.coherent_iff.mpr ⟨fun b => ?_, fun k => ?_⟩
  · by_cases hb : b = c
    · subst hb
      have eng := hs.abortChannel_eng b b
      have slot := hs.abortChannel_slot b b
      rw [if_pos rfl] at eng slot
      exact {
        idle := by rw [eng]; exact iff_of_true rfl rfl
        runs := fun k => by rw [eng]; exact iff_of_false nofun (stopped k).1
        waits := fun k => by rw [slot]; exact iff_of_false nofun (stopped k).2
        normal := fun k hk => absurd hk (stopped k).2
        urgent := fun i k hi _ => absurd hi (stopped i).1
        suspending := fun k hk => absurd hk (stopped k).1 }
    · have eng := hs.abortChannel_eng c b
      have slot := hs.abortChannel_slot c b
      rw [if_neg hb] at eng slot
      refine (SameParts.of_jobs slot fun k => ?_).channel_of_eng (channels b) eng
      cases hk : s.onChannel c k with
      | false => exact .inl (away hk)
      | true =>
        have off : s.onChannel b k = false := Bool.eq_false_iff.mpr fun hbk => hb (State.onChannel_unique hbk hk)
        exact .inr ⟨off, (hon b k).trans off⟩
  · unfold Job.FreeCoherent
    rw [s.abortChannel_defn, hs.abortChannel_state]
    have hfree := free k
    unfold Job.FreeCoherent at hfree
    split_ifs with hhalt hready
    · rcases hhalt with ⟨-, h | h⟩ <;> simp [h] at hfree ⊢ <;> exact hfree
    · simp [hready.2] at hfree ⊢; exact hfree
    · exact hfree

theorem State.Coherent.countDown (hs : s.Coherent) : s.countDown.Coherent := by
  obtain ⟨channels, free⟩ := State.coherent_iff.mp hs
  refine State.coherent_iff.mpr ⟨fun c => ?_, free⟩
  refine SameParts.channel (s := s) ⟨rfl, fun _ => .rfl, fun _ => .rfl, fun _ _ => rfl⟩ (channels c) ?_ ?_ ?_ <;>
    rw [State.eng_countDown, Engine.afterClock_eq]

/-- No job and no pass. -/
theorem State.coherent_of_powerOn (engs : s.engs = Vector.replicate 4 .powerOn) (arbs : s.arbs = Vector.replicate 4 .powerOn)
    (jobs : s.jobs = Vector.replicate 64 .free) : s.Coherent :=
  State.coherent_reset.steady (.of_parts engs (fun c => by rw [State.arb, arbs]; rfl) jobs)

theorem kept_coherent : Kept State.Coherent where
  move {i s t} h hs := by
    cases h with
    | link _ h => exact hs.steady (.of_link h.side)
    | engine _ h => exact h.coherent hs
    | define j d _ _ still =>
      exact hs.setJob (by rcases still with h | h <;> simp [h, JobState.inUse]) rfl (by simp [Job.FreeCoherent])
    | release j still =>
      exact hs.setJob (by rcases still with h | h <;> simp [h, JobState.inUse]) rfl
        (by simp [Job.FreeCoherent, Job.free, Runtime.free])
    | unclaim p _ _ _ r =>
      have unclaimed : State.Coherent { s with claim := none } := hs.steady (.of_parts rfl (fun _ => rfl) rfl)
      exact unclaimed.steady (.of_link (State.reply_side _ p r .ok []))
    | abort c => exact hs.abortChannel c
    | reset u => exact State.coherent_of_powerOn u.resetRequest_engs u.resetRequest_arbs u.resetRequest_jobs
    | powerOn => exact State.coherent_of_powerOn s.powerOn_engs s.powerOn_arbs s.powerOn_jobs
    | _ => exact hs.steady (.of_parts rfl (fun _ => rfl) rfl)
  pins _ _ _ _ _ _ hs := hs.steady (.of_parts rfl (fun _ => rfl) rfl)
  clear _ _ hs := hs.steady (.of_parts rfl (fun _ => rfl) rfl)
  countDown hs := hs.countDown

end Sys2Proof.Machine
end

section
/-! SUPPORT. Every move keeps the passes of coherent channels lawful (R93, R148). -/
namespace Sys2Proof.Machine

variable {s t : State} {c : Fin 4} {j k : Fin 64} {x : Pass}

/-! ### Lawful engines -/

theorem Engine.Lawful.progress_le {e : Engine} {d : JobDef} {r : Runtime} (h : e.Lawful d r) : r.progress ≤ d.bound := by
  by_cases hd : d.kind = .poll
  · rw [JobDef.bound_poll hd]; exact (h.attempts hd).le
  · rw [JobDef.bound_of_ne_poll hd]
    have := h.bytes hd
    simp only [Engine.bytesShifted] at this
    omega

/-- A cancel requested on the way breaks nothing: an engine's state asks for it, or does not read it. -/
theorem Engine.Lawful.askCancel {e : Engine} {d : JobDef} {r : Runtime} (h : e.Lawful d r) :
    e.Lawful d { r with cancel := true } :=
  { h with
    endedGap := fun _ _ => rfl
    reason := fun l hl => by
      have := h.reason l hl
      cases l with
      | cancel => rfl
      | passEnd _ | suspension | attemptEnd | fault _ => exact this }

/-! ### What keeps passes lawful -/

/-- R93 and R132 for one job: what its progress keeps to. -/
structure Job.ProgressLawful (y : Job) : Prop where
  progress : ∀ d, y.defn = some d → y.rt.progress ≤ d.bound
  suspended : ∀ d, y.defn = some d → y.rt.state = .suspended → y.rt.progress < d.bound

theorem State.PassesLawful.job (hs : s.PassesLawful) (j : Fin 64) : (s.job j).ProgressLawful := ⟨hs.progress j, hs.suspended j⟩

theorem State.passesLawful_of (jobs : ∀ j, (t.job j).ProgressLawful)
    (engine : ∀ c j d, (t.eng c).job = some j → (t.job j).defn = some d → (t.eng c).Lawful d (t.job j).rt) : t.PassesLawful :=
  ⟨fun j => (jobs j).progress, fun j => (jobs j).suspended, engine⟩

/-- Of a job the lawfulness of passes reads the same: its definition, its progress, its cancel, and that it is not newly
SUSPENDED. -/
structure Job.SameCount (a b : Job) : Prop where
  defn : b.defn = a.defn
  progress : b.rt.progress = a.rt.progress
  cancel : b.rt.cancel = a.rt.cancel
  suspended : b.rt.state = .suspended → a.rt.state = .suspended

theorem Job.SameCount.refl (a : Job) : a.SameCount a := ⟨rfl, rfl, rfl, id⟩

theorem Job.SameCount.progressLawful {a b : Job} (h : a.SameCount b) (ha : a.ProgressLawful) : b.ProgressLawful where
  progress d hd := by rw [h.progress]; exact ha.progress d (h.defn ▸ hd)
  suspended d hd hs := by rw [h.progress]; exact ha.suspended d (h.defn ▸ hd) (h.suspended hs)

theorem Job.SameCount.lawful {a b : Job} {e : Engine} {d : JobDef} (h : a.SameCount b) (he : e.Lawful d a.rt) : e.Lawful d b.rt :=
  he.congr h.progress h.cancel

theorem EndingFrame.sameCount (h : EndingFrame j s t) (hk : k ≠ j) : (s.job k).SameCount (t.job k) :=
  ⟨h.defn k, h.progress k, h.cancel k hk, h.suspended k hk⟩

/-- One job changes, and no engine is in a pass of it. -/
theorem State.PassesLawful.change (hs : s.PassesLawful) (others : ∀ k, k ≠ j → (s.job k).SameCount (t.job k))
    (here : (t.job j).ProgressLawful) (engines : ∀ c k, (t.eng c).job = some k → k ≠ j ∧ t.eng c = s.eng c) :
    t.PassesLawful := by
  refine State.passesLawful_of (fun k => ?_) fun c k d hjob hd => ?_
  · by_cases hk : k = j
    · subst hk; exact here
    · exact (others k hk).progressLawful (hs.job k)
  · obtain ⟨hk, heng⟩ := engines c k hjob
    rw [heng] at hjob ⊢
    exact (others k hk).lawful (hs.engine c k d hjob ((others k hk).defn ▸ hd))

theorem State.PassesLawful.sameCount (hs : s.PassesLawful) (engs : t.engs = s.engs)
    (jobs : ∀ k, (s.job k).SameCount (t.job k)) : t.PassesLawful := by
  have heng (c : Fin 4) : t.eng c = s.eng c := by rw [State.eng, engs]; rfl
  refine State.passesLawful_of (fun k => (jobs k).progressLawful (hs.job k)) fun c k d hjob hd => ?_
  rw [heng] at hjob ⊢
  exact (jobs k).lawful (hs.engine c k d hjob ((jobs k).defn ▸ hd))

theorem State.PassesLawful.trigger (hs : s.PassesLawful) (j : Fin 64) : (s.trigger j).PassesLawful := by
  refine hs.sameCount (EndingFrame.trigger j s j).engs fun k => ?_
  obtain ⟨i, hi⟩ := exists_ne k
  exact (EndingFrame.trigger i s j).sameCount hi.symm

theorem State.PassesLawful.setRt {r : Runtime} (hs : s.PassesLawful) (progress : r.progress = (s.job j).rt.progress)
    (cancel : r.cancel = (s.job j).rt.cancel) (suspended : r.state = .suspended → (s.job j).rt.state = .suspended) :
    (s.setRt j r).PassesLawful := by
  refine hs.sameCount rfl fun k => ?_
  rw [State.job_setRt]
  split
  · subst k; exact ⟨rfl, progress, cancel, suspended⟩
  · exact .refl _

/-! ### Passes -/

/-- The state an event leads to: the pass's engine goes on lawfully, or its job is laid down within its bound. -/
theorem State.PassesLawful.passOut {K L : Prop} (hs : s.PassesLawful) (hL : L) (hdefn : (s.job x.job).defn = some x.defn)
    (hrun : (s.job x.job).rt.state = .running) (alone : ∀ c, (s.eng c).job = some x.job → c = x.chan)
    (out : PassOut K L s x t) : t.PassesLawful := by
  cases out with
  | stays e r counted h =>
    have lawful := h.lawful hL
    refine State.passesLawful_of (fun k => ?_) fun c k d hjob hd => ?_
    · rw [State.job_setRt]
      split
      · subst k
        refine ⟨fun d hd => ?_, fun d _ hsusp => ?_⟩
        · cases hdefn.symm.trans hd; exact lawful.progress_le
        · cases (hrun.symm.trans counted.state.symm).trans hsusp
      · exact hs.job k
    · rw [State.eng_setRt] at hjob ⊢
      rw [State.defn_setRt, State.job_setEng] at hd
      by_cases hc : c = x.chan
      · subst hc
        rw [State.eng_setEng_self] at hjob ⊢
        cases h.job.symm.trans hjob
        cases hdefn.symm.trans hd
        rw [State.job_setRt_self]
        exact lawful
      · rw [State.eng_setEng_ne _ (Ne.symm hc)] at hjob ⊢
        have hk : x.job ≠ k := by rintro rfl; exact hc (alone c hjob)
        rw [State.job_setRt_ne _ hk, State.job_setEng]
        exact hs.engine c k d hjob hd
  | ends e r l counted normal progress left =>
    generalize hu : ((s.setEng x.chan e).setRt x.job r).setEng x.chan
      (((s.setEng x.chan e).setRt x.job r).eng x.chan).release = u
    have eng (c : Fin 4) (hc : c ≠ x.chan) : u.eng c = s.eng c := by
      rw [← hu, State.eng_setEng_ne _ (Ne.symm hc), State.eng_setRt, State.eng_setEng_ne _ (Ne.symm hc)]
    have released : (u.eng x.chan).job = none := by rw [← hu, State.eng_setEng_self]; rfl
    have here : u.job x.job = { s.job x.job with rt := r } := by rw [← hu, State.job_setEng, State.job_setRt_self]; rfl
    have away (k : Fin 64) (hk : k ≠ x.job) : u.job k = s.job k := by
      rw [← hu, State.job_setEng, State.job_setRt_ne _ (Ne.symm hk)]; rfl
    have frame := EndingFrame.applyEnding u x.chan x.job x.defn l
    have ended : (u.applyEnding x.chan x.job x.defn l).PassesLawful := by
      refine hs.change (j := x.job) (fun k hk => away k hk ▸ frame.sameCount hk) ⟨fun d hd => ?_, fun d hd hsusp => ?_⟩
        fun c k hjob => ?_
      · rw [frame.defn, here] at hd
        cases hdefn.symm.trans hd
        rw [frame.progress, here]; exact progress hL
      · rw [frame.defn, here] at hd
        cases hdefn.symm.trans hd
        rcases State.applyEnding_cases u x.chan x.job x.defn l with down | ⟨hl, -⟩
        · exact absurd hsusp down.rests.2.2
        · rw [frame.progress, here]; exact left hL hl
      · have heng : (u.applyEnding x.chan x.job x.defn l).eng c = u.eng c := by rw [State.eng, frame.engs]; rfl
        rw [heng] at hjob ⊢
        have hc : c ≠ x.chan := by rintro rfl; rw [released] at hjob; cases hjob
        rw [eng c hc] at hjob ⊢
        exact ⟨by rintro rfl; exact hc (alone c hjob), rfl⟩
    unfold State.finishPass
    rw [hu]
    exact ended.of_parts rfl rfl

/-- No two engines are in a pass of one job. -/
theorem State.Coherent.alone (hs : s.Coherent) {b : Fin 4} (hb : (s.eng b).job = some j) (hc : (s.eng c).job = some j) : b = c :=
  State.onChannel_unique (hs.engineJob b j hb).1 (hs.engineJob c j hc).1

/-- No engine is in a pass of a job that is not RUNNING. -/
theorem State.Coherent.notInPass (hs : s.Coherent) (h : (s.job j).rt.state ≠ .running) (c : Fin 4) : (s.eng c).job ≠ some j :=
  fun hc => h (hs.engineJob c j hc).2

/-- The first byte or attempt of a lawful definition is left. -/
theorem JobDef.bound_pos {d : JobDef} (h : d.lawful = true) : 0 < d.bound := by
  unfold JobDef.bound
  split
  · rename_i hk
    simp only [JobDef.lawful, hk, if_pos, Bool.and_eq_true, pollRules, decide_eq_true_eq] at h
    obtain ⟨-, hretry, -⟩ := h
    exact Nat.pos_of_ne_zero fun h0 => hretry (BitVec.eq_of_toNat_eq h0)
  · exact (Window.inBounds_iff.mp (JobDef.inBounds_of_lawful h).1).2.1

/-- A job at rest comes into a pass with something left to do (R92, R132). -/
theorem State.PassesLawful.startPass (hs : s.PassesLawful) (alone : ∀ c, (s.eng c).job ≠ some x.job) {r : Runtime}
    (hdefn : (s.job x.job).defn = some x.defn) (hrun : r.state = .running) (left : r.progress < x.defn.bound) :
    ((s.setRt x.job r).startPass x).PassesLawful := by
  have runs : (s.setRt x.job r).PassesLawful := by
    refine hs.change (j := x.job) (fun k hk => ?_) ⟨fun d hd => ?_, fun d hd hsusp => ?_⟩ fun c k hjob => ⟨?_, rfl⟩
    · rw [State.job_setRt_ne _ (Ne.symm hk)]; exact .refl _
    · rw [State.defn_setRt] at hd
      cases hdefn.symm.trans hd
      rw [State.job_setRt_self]; exact left.le
    · rw [State.job_setRt_self, hrun] at hsusp; cases hsusp
    · rintro rfl; exact alone c hjob
  refine runs.passOut (K := False) (L := True) trivial ((State.defn_setRt ..).trans hdefn) ?_ (fun c hc => absurd hc (alone c))
    (.startPass fun _ => ?_)
  · rw [State.job_setRt_self]; exact hrun
  · rw [State.job_setRt_self]; exact left

/-- The flag of a cancel requested is set. -/
theorem State.PassesLawful.askCancel (hs : s.PassesLawful) (j : Fin 64) :
    (s.setRt j { (s.job j).rt with cancel := true }).PassesLawful := by
  refine State.passesLawful_of (fun k => ?_) fun c k d hjob hd => ?_
  · rw [State.job_setRt]
    split
    · subst k; exact ⟨hs.progress j, hs.suspended j⟩
    · exact hs.job k
  · rw [State.defn_setRt] at hd
    have lawful := hs.engine c k d hjob hd
    rw [State.job_setRt]
    split
    · subst k; exact lawful.askCancel
    · exact lawful

theorem State.PassesLawful.cancelSuspended (hs : s.PassesLawful) (hc : s.Coherent) (hstate : (s.job j).rt.state = .suspended) :
    (s.cancelSuspended j).PassesLawful := by
  have frame := EndingFrame.cancelledEnding s j
  have hengs (c : Fin 4) : (s.cancelledEnding j).eng c = s.eng c := by rw [State.eng, frame.engs]; rfl
  have cancelled : (s.cancelledEnding j).PassesLawful := by
    refine hs.change (fun k hk => frame.sameCount hk) ⟨fun d hd => ?_, fun d hd hsusp => ?_⟩ fun c k hjob => ⟨?_, hengs c⟩
    · rw [frame.progress]; exact hs.progress j d (frame.defn j ▸ hd)
    · exact absurd hsusp (LaidDown.cancelledEnding s j).rests.2.2
    · rintro rfl
      rw [hengs] at hjob
      exact hc.notInPass (by simp [hstate]) c hjob
  obtain ⟨c, hslot⟩ := hc.suspended j hstate
  obtain ⟨d, hd, -⟩ := State.onChannel_iff.mp (hc.slotJob c j hslot).1
  rw [State.cancelSuspended_of_defn hd]
  exact cancelled.of_parts rfl rfl

theorem EngineMove.passesLawful {choice : Bool} (h : EngineMove choice s t) (hdefs : s.definitionsLawful) (hc : s.Coherent)
    (hs : s.PassesLawful) : t.PassesLawful := by
  cases h with
  | trigger j => exact hs.trigger j
  | flags | dueAll => exact hs.of_parts rfl rfl
  | disarm j ready => exact hs.setRt rfl rfl nofun
  | clear j halted => exact hs.setRt (by simp) (by simp) nofun
  | swap j d live =>
    exact hs.setRt (by unfold Runtime.askSwap; split_ifs <;> rfl) (by unfold Runtime.askSwap; split_ifs <;> rfl)
      (by unfold Runtime.askSwap; split_ifs <;> exact id)
  | cancelRunning j running =>
    rcases hc.cancelRunning_cases running with e | ⟨x, hx, rfl, e⟩ <;> rw [e]
    · exact hs
    · obtain ⟨hjob, -, hdefn, -⟩ := State.pass?_iff.mp hx
      have asked := hs.askCancel x.job
      refine asked.passOut asked ((State.defn_setRt ..).trans hdefn) ?_ (fun c hcx => hc.alone hcx hjob)
        (hc.carryCancel_out hx rfl)
      rw [State.job_setRt_self]; exact running
  | cancelSuspended j suspended => exact hs.cancelSuspended hc suspended
  | dispatch c k j idle ready =>
    obtain ⟨d, hd, hready, -, -⟩ := State.isReady_iff.mp ready
    rw [State.dispatch_of_defn hd]
    exact State.PassesLawful.startPass (x := s.passOf c j d) hs (hc.notInPass (by simp [State.passOf, hready])) hd rfl
      (JobDef.bound_pos (hdefs j d hd))
  | resume c j idle slot =>
    obtain ⟨hon, hstate, -⟩ := hc.slotJob c j slot
    obtain ⟨d, hd, -⟩ := State.onChannel_iff.mp hon
    rw [State.resume_of_defn hd hstate]
    have emptied : (s.setArb c { s.arb c with slot := none }).PassesLawful := hs.of_parts rfl rfl
    exact State.PassesLawful.startPass (x := s.passOf c j d) emptied (hc.notInPass (by simp [State.passOf, hstate])) hd rfl
      (hs.suspended j d hd hstate)
  | pass x t hx h =>
    obtain ⟨hjob, -, hdefn, -⟩ := State.pass?_iff.mp hx
    exact hs.passOut hs hdefn (hc.engineJob _ _ hjob).2 (fun c hcx => hc.alone hcx hjob) (h.out (hc.inPass hx))

/-! ### The other moves -/

/-- A job that is neither RUNNING nor SUSPENDED replaced by one with no progress. -/
theorem State.PassesLawful.setJob {y : Job} (hs : s.PassesLawful) (hc : s.Coherent) (hold : (s.job j).rt.state ≠ .running)
    (hprogress : y.rt.progress = 0) (hstate : y.rt.state ≠ .suspended) : (s.setJob j y).PassesLawful := by
  refine hs.change (j := j) (fun k hk => ?_) ⟨fun d _ => ?_, fun d _ hsusp => ?_⟩ fun c k hjob => ⟨?_, rfl⟩
  · rw [State.job_setJob_ne _ (Ne.symm hk)]; exact .refl _
  · rw [State.job_setJob_self, hprogress]; exact Nat.zero_le _
  · rw [State.job_setJob_self] at hsusp; exact absurd hsusp hstate
  · rintro rfl; exact hc.notInPass hold c hjob

/-- R168: the byte that an engine stores as it stops is one of the window. -/
theorem State.PassesLawful.stopEngine_progress (hs : s.PassesLawful) (c : Fin 4) (j : Fin 64) (d : JobDef)
    (hd : (s.job j).defn = some d) : ((s.stopEngine c).job j).rt.progress ≤ d.bound := by
  cases hx : s.pass? c with
  | none =>
    have : (s.stopEngine c).job j = s.job j := by simp only [State.stopEngine, hx]; rfl
    rw [this]; exact hs.progress j d hd
  | some x =>
    obtain ⟨hjob, hchan, hdefn, -⟩ := State.pass?_iff.mp hx
    cases hb : (s.eng c).storeWaiting with
    | none =>
      have : (s.stopEngine c).job j = s.job j := by
        simp only [State.stopEngine, hx, State.storeAtStop, hchan, hb]; rfl
      rw [this]; exact hs.progress j d hd
    | some b =>
      rw [State.stopEngine_store hx hb, State.job_setRt]
      split
      · subst j
        cases hdefn.symm.trans hd
        have lawful := hs.engine c _ _ hjob hdefn
        have hstore : (s.eng c).storeWaiting ≠ none := by rw [hb]; simp
        have hpoll : x.defn.kind ≠ .poll := fun hk => by
          have := (lawful.store hstore).1
          rw [hk] at this; cases this
        rw [JobDef.bound_of_ne_poll hpoll]
        exact lawful.progress_lt hstore
      · exact hs.progress j d hd

/-- An engine that stops counts for the job of its pass at most. -/
theorem State.stopEngine_job_ne (h : (s.eng c).job ≠ some j) : (s.stopEngine c).job j = s.job j := by
  unfold State.stopEngine
  rw [State.job_setEng]
  split
  · rfl
  · rename_i x hx
    obtain ⟨hjob, -⟩ := State.pass?_iff.mp hx
    have hj : x.job ≠ j := by rintro rfl; exact h hjob
    unfold State.storeAtStop
    split
    · rfl
    · rw [State.countByte_eq, State.job_setRt_ne _ hj]; rfl

theorem State.Coherent.abortChannel_progress (hs : s.Coherent) (c : Fin 4) (j : Fin 64) :
    ((s.abortChannel c).job j).rt.progress = ((s.stopEngine c).job j).rt.progress := by
  rw [hs.abortChannel_job c j rfl]
  dsimp only
  split_ifs <;> rfl

/-- The jobs of other channels are as they were. -/
theorem State.Coherent.abortChannel_job_away (hs : s.Coherent) (h : s.onChannel c j = false) :
    (s.abortChannel c).job j = s.job j := by
  have stopped : (s.stopEngine c).job j = s.job j := State.stopEngine_job_ne fun hjob => by
    rw [(hs.engineJob c j hjob).1] at h; cases h
  rw [hs.abortChannel_job c j rfl, stopped]
  simp [h]

theorem State.PassesLawful.abortChannel (hs : s.PassesLawful) (hc : s.Coherent) (c : Fin 4) :
    (s.abortChannel c).PassesLawful := by
  refine State.passesLawful_of (fun k => ⟨fun d hd => ?_, fun d hd hsusp => ?_⟩) fun b k d hjob hd => ?_
  · rw [s.abortChannel_defn] at hd
    rw [hc.abortChannel_progress]; exact hs.stopEngine_progress c k d hd
  · rw [s.abortChannel_defn] at hd
    have away : s.onChannel c k = false := by
      by_contra hon
      rw [hc.abortChannel_state] at hsusp
      split_ifs at hsusp with hhalt
      exact hhalt ⟨by simpa using hon, .inr hsusp⟩
    rw [hc.abortChannel_job_away away] at hsusp ⊢
    exact hs.suspended k d hd hsusp
  · rw [s.abortChannel_defn] at hd
    rw [hc.abortChannel_eng] at hjob ⊢
    split_ifs at hjob ⊢ with hb
    · cases hjob
    · have away : s.onChannel c k = false := Bool.eq_false_iff.mpr fun hon =>
        hb (State.onChannel_unique (hc.engineJob b k hjob).1 hon)
      rw [hc.abortChannel_job_away away]
      exact hs.engine b k d hjob hd

theorem State.passesLawful_of_powerOn (engs : s.engs = Vector.replicate 4 .powerOn)
    (jobs : s.jobs = Vector.replicate 64 .free) : s.PassesLawful :=
  State.passesLawful_reset.of_parts engs jobs

/-- What keeps the passes of coherent channels lawful: definitions that are lawful. -/
structure State.SoundPasses (s : State) : Prop where
  defs : s.definitionsLawful
  coherent : s.Coherent
  passes : s.PassesLawful

theorem Move.passesLawful {i : Instr} (h : Move i s t) (hs : s.SoundPasses) : t.PassesLawful := by
  obtain ⟨hdefs, hc, hp⟩ := hs
  cases h with
  | link _ h => exact hp.of_parts h.side.engs h.side.jobs
  | engine _ h => exact h.passesLawful hdefs hc hp
  | define j d _ _ still => exact hp.setJob hc (by rcases still with h | h <;> simp [h]) rfl nofun
  | release j still => exact hp.setJob hc (by rcases still with h | h <;> simp [h]) rfl nofun
  | unclaim p _ _ _ r =>
    have side := State.reply_side { s with claim := none } p r .ok []
    exact hp.of_parts side.engs side.jobs
  | abort c => exact hp.abortChannel hc c
  | reset u => exact State.passesLawful_of_powerOn u.resetRequest_engs u.resetRequest_jobs
  | powerOn => exact State.passesLawful_of_powerOn s.powerOn_engs s.powerOn_jobs
  | _ => exact hp.of_parts rfl rfl

theorem kept_soundPasses : Kept State.SoundPasses where
  move h hs := ⟨kept_definitionsLawful.move h hs.defs, kept_coherent.move h hs.coherent, h.passesLawful hs⟩
  pins low phase pos straps spi queue hs :=
    ⟨hs.defs, kept_coherent.pins low phase pos straps spi queue hs.coherent, hs.passes.of_parts rfl rfl⟩
  clear a n hs := ⟨hs.defs, kept_coherent.clear a n hs.coherent, hs.passes.of_parts rfl rfl⟩
  countDown {s} hs := by
    refine ⟨hs.defs, kept_coherent.countDown hs.coherent, State.passesLawful_of hs.passes.job fun c j d hjob hd => ?_⟩
    rw [State.eng_countDown] at hjob ⊢
    refine Engine.Lawful.afterClock (hs.passes.engine c j d ?_ hd) _
    rwa [Engine.afterClock_eq] at hjob

end Sys2Proof.Machine

namespace Sys2Proof
open Sys2Proof.Machine

/-- Settles O9: an event leads its pass on or to an ending, and a job enters and leaves engine and slot with its state; a
dispatch finds something to do by the definition's rules, a resumption by the progress left at the suspension. -/
theorem stepKeepsChannelsCoherent : Obligations.StepKeepsChannelsCoherent :=
  ⟨fun _ _ => kept_coherent.step, fun _ _ hdefs hc hp e => (kept_soundPasses.step ⟨hdefs, hc, hp⟩ e).passes⟩

end Sys2Proof
end
